-- ==== Sys2Proof/Word.lean ====
section
/-! DEFINITION. The one word type of the codec: the byte (00_scope R8). -/

namespace Sys2Proof

/-- A byte: an 8-bit vector, bit 0 the least significant (00_scope R8). -/
abbrev Byte := BitVec 8

/-- The packed view of a frame (20_memory R32): notation only, no interface of the codec carries it. -/
abbrev Word32 := BitVec 32

end Sys2Proof
end

