-- ==== Sys2Proof/Config.lean ====
section
/-! DEFINITION. The parameters of the codec (00_scope R7) and the host parameters the spec leaves OPEN (D20). -/

namespace Sys2Proof.Config

/-- FRAME_LEN: both directions use frames of exactly four bytes (R7, R37, R45). -/
def frameLen : Nat := 4

/-- The greatest value of an address or data operand (R7, R63, R64). -/
def maxField : Nat := 255

/-! The host's open request data bytes: D20 and U2 treat each as a named parameter, "each a byte 0–255". No rule of the
codec depends on them; they occur in the pseudo-operations only (R60). DESIGN CHOICE (log 11): constants without a body,
so no proof can rest on a value; safe. -/

/-- REQ_DATA_GETPORT (R60, D20, N4). -/
opaque reqDataGetPort : Byte

/-- REQ_DATA_SETUP (R60, D20, N4). -/
opaque reqDataSetup : Byte

/-- REQ_DATA_NOOP (D20; the source gives no host operation that issues NOOP). -/
opaque reqDataNoop : Byte

/-- REQ_DATA_GETOPTION (D20, N2; no host operation issues GETOPTION). -/
opaque reqDataGetOption : Byte

/-- REQ_DATA_SETOPTION (D20, N2; no host operation issues SETOPTION). -/
opaque reqDataSetOption : Byte

end Sys2Proof.Config
end

