-- ==== Sys2Proof/Syntax.lean ====
section
/-! DEFINITION. The operations of the codec: one constructor per row of opcode_table.json (30_encoding R53, R57). -/

namespace Sys2Proof

/-- The nine names of the code tables (30_encoding R47): "a closed tagged set (enum)" (10_state R20). -/
inductive Cmd where
  | noop | setup | getPort | setPort | getOption | setOption | setSingle | delSingle | toggle
  deriving DecidableEq, Repr

/-- One codec operation as the host issues it.

`encode` and `decode` are the two interface transactions (R53). A request row is ENCODE with `cmd` fixed (R72 to R80), so its
operands are ENCODE's naturals: `addr` 256 is an operand and raises FormatError(ADDR). A response row is DECODE of a four-byte
buffer with byte 0 fixed (R94 to R102), so its operands are the buffer's bytes 1, 2 and 3, the checksum as received.
DEDUCED (log 7). -/
inductive Instr where
  | encode (cmd addr data : Nat)
  | decode (buf : List Byte)
  | reqNoop (addr data : Nat)
  | reqSetup (addr data : Nat)
  | reqGetPort (addr data : Nat)
  | reqSetPort (addr data : Nat)
  | reqGetOption (addr data : Nat)
  | reqSetOption (addr data : Nat)
  | reqSetSingle (addr data : Nat)
  | reqDelSingle (addr data : Nat)
  | reqToggle (addr data : Nat)
  | rspNoop (b1 b2 b3 : Byte)
  | rspSetup (b1 b2 b3 : Byte)
  | rspGetPort (b1 b2 b3 : Byte)
  | rspSetPort (b1 b2 b3 : Byte)
  | rspGetOption (b1 b2 b3 : Byte)
  | rspSetOption (b1 b2 b3 : Byte)
  | rspSetSingle (b1 b2 b3 : Byte)
  | rspDelSingle (b1 b2 b3 : Byte)
  | rspToggle (b1 b2 b3 : Byte)
  deriving DecidableEq, Repr

end Sys2Proof
end

