-- ==== Sys2Proof/Machine/Tables.lean ====
section
/-! DEFINITION. The two hardwired constant tables (10_state R20) and the pairing of their codes (30_encoding R47 to R49). -/

namespace Sys2Proof

/-- The nine names, in the source's order (R47). -/
def Cmd.all : List Cmd :=
  [.noop, .setup, .getPort, .setPort, .getOption, .setOption, .setSingle, .delSingle, .toggle]

/-- The command code of a name (R47). -/
def cmdCode : Cmd → Byte
  | .noop => 0x00
  | .setup => 0x01
  | .getPort => 0x02
  | .setPort => 0x03
  | .getOption => 0x04
  | .setOption => 0x05
  | .setSingle => 0x06
  | .delSingle => 0x07
  | .toggle => 0x08

/-- The response code of a name (R48). -/
def rspCode : Cmd → Byte
  | .noop => 0xFF
  | .setup => 0xFE
  | .getPort => 0xFD
  | .setPort => 0xFC
  | .getOption => 0xFB
  | .setOption => 0xFA
  | .setSingle => 0xF9
  | .delSingle => 0xF8
  | .toggle => 0xF7

/-- CMD_TABLE (R47): the nine command codes. -/
def cmdTable : List Byte := Cmd.all.map cmdCode

/-- RSP_TABLE (R48): the nine response codes. -/
def rspTable : List Byte := Cmd.all.map rspCode

/-- The explicit membership test `cmd ∈ CMD_TABLE` on an operand, any natural number (R54, R55, R62). -/
def isCommandCode (cmd : Nat) : Bool := cmdTable.any fun code => code.toNat == cmd

/-- The explicit membership test `b0 ∈ RSP_TABLE` on a received byte (R54, R56, R85). -/
def isResponseCode (b0 : Byte) : Bool := rspTable.any fun code => code == b0

/-- The name whose command code is `b`, if any (R47). -/
def cmdOfCode (b : Byte) : Option Cmd := Cmd.all.find? fun c => cmdCode c == b

/-- The name whose response code is `b`, if any (R48). -/
def rspOfCode (b : Byte) : Option Cmd := Cmd.all.find? fun c => rspCode c == b

/-- `cmdOf(r) = 255 − r` (R49): the command code that a response code answers, and the response code paired with a
command code. -/
def pairedCode (c : Byte) : Byte := 255 - c

end Sys2Proof
end

