-- ==== Sys2Proof/WellFormed.lean ====
section
/-! DEFINITION. Which operations lie inside the two frame formats. -/

namespace Sys2Proof

/-- An address or data operand that fits its frame byte (R46, R63, R64). -/
def fieldOk (v : Nat) : Bool := decide (v ≤ Config.maxField)

/-- The operation's operands are values of a REQ32 or RSP32 frame (R46, R50). An operation that is not well formed is still one the host
may issue: it runs and delivers its error (R10). -/
def Instr.wf : Instr → Bool
  | .encode cmd addr data => isCommandCode cmd && fieldOk addr && fieldOk data
  | .decode buf =>
    match buf with
    | [b0, _, _, _] => isResponseCode b0
    | _ => false
  | .reqNoop addr data => fieldOk addr && fieldOk data
  | .reqSetup addr data => fieldOk addr && fieldOk data
  | .reqGetPort addr data => fieldOk addr && fieldOk data
  | .reqSetPort addr data => fieldOk addr && fieldOk data
  | .reqGetOption addr data => fieldOk addr && fieldOk data
  | .reqSetOption addr data => fieldOk addr && fieldOk data
  | .reqSetSingle addr data => fieldOk addr && fieldOk data
  | .reqDelSingle addr data => fieldOk addr && fieldOk data
  | .reqToggle addr data => fieldOk addr && fieldOk data
  | .rspNoop _ _ _ => true
  | .rspSetup _ _ _ => true
  | .rspGetPort _ _ _ => true
  | .rspSetPort _ _ _ => true
  | .rspGetOption _ _ _ => true
  | .rspSetOption _ _ _ => true
  | .rspSetSingle _ _ _ => true
  | .rspDelSingle _ _ _ => true
  | .rspToggle _ _ _ => true

end Sys2Proof
end

