-- ==== Sys2Proof/Decode.lean ====
section
/-! DEFINITION. Reading a frame's bytes as a row of the opcode table, total and rejecting by name, and writing the
bytes of a row. This is the table's reading of words, not the operation DECODE (that is Machine/Ops.lean). -/

namespace Sys2Proof

/-- Why a byte list is no frame of the opcode table. -/
inductive FrameReject where
  /-- Not exactly four bytes (R45, R58). -/
  | wrongLength (n : Nat)
  /-- Byte 0 is one of the 238 unassigned codes 9 to 246 (R54, R57). -/
  | unassignedCode (b0 : Byte)
  deriving DecidableEq, Repr

/-- The request row of a name (R72 to R80). -/
def Instr.request : Cmd → Nat → Nat → Instr
  | .noop, addr, data => .reqNoop addr data
  | .setup, addr, data => .reqSetup addr data
  | .getPort, addr, data => .reqGetPort addr data
  | .setPort, addr, data => .reqSetPort addr data
  | .getOption, addr, data => .reqGetOption addr data
  | .setOption, addr, data => .reqSetOption addr data
  | .setSingle, addr, data => .reqSetSingle addr data
  | .delSingle, addr, data => .reqDelSingle addr data
  | .toggle, addr, data => .reqToggle addr data

/-- The response row of a name (R94 to R102). -/
def Instr.response : Cmd → Byte → Byte → Byte → Instr
  | .noop, b1, b2, b3 => .rspNoop b1 b2 b3
  | .setup, b1, b2, b3 => .rspSetup b1 b2 b3
  | .getPort, b1, b2, b3 => .rspGetPort b1 b2 b3
  | .setPort, b1, b2, b3 => .rspSetPort b1 b2 b3
  | .getOption, b1, b2, b3 => .rspGetOption b1 b2 b3
  | .setOption, b1, b2, b3 => .rspSetOption b1 b2 b3
  | .setSingle, b1, b2, b3 => .rspSetSingle b1 b2 b3
  | .delSingle, b1, b2, b3 => .rspDelSingle b1 b2 b3
  | .toggle, b1, b2, b3 => .rspToggle b1 b2 b3

/-- The row that a frame's bytes select: byte 0 selects it, as the table's match and mask say (R57). A request row's byte 3 is computed
by ENCODE and is never an operand (R29, R46), so it is not read here. DESIGN CHOICE (log 6). -/
def decodeFrame (bytes : List Byte) : Except FrameReject Instr :=
  match bytes with
  | [b0, b1, b2, b3] =>
    match cmdOfCode b0 with
    | some c => .ok (Instr.request c b1.toNat b2.toNat)
    | none =>
      match rspOfCode b0 with
      | some c => .ok (Instr.response c b1 b2 b3)
      | none => .error (.unassignedCode b0)
  | other => .error (.wrongLength other.length)

/-- The bytes of a frame in its 32-bit view: byte 0 in bits 31:24, byte 3 in bits 7:0 (R32). -/
def unpackFrame (w : Word32) : List Byte :=
  [w.extractLsb' 24 8, w.extractLsb' 16 8, w.extractLsb' 8 8, w.extractLsb' 0 8]

/-- The 32-bit view of four bytes (R32). -/
def packFrame (b0 b1 b2 b3 : Byte) : Word32 := b0 ++ b1 ++ b2 ++ b3

/-- The mask of every frame row of opcode_table.json. -/
def rowMask : Word32 := 0xFF000000

/-- The match of a frame row in opcode_table.json; ENCODE and DECODE have none. -/
def rowMatch : Instr → Option Word32
  | .encode _ _ _ => none
  | .decode _ => none
  | .reqNoop _ _ => some 0x00000000
  | .reqSetup _ _ => some 0x01000000
  | .reqGetPort _ _ => some 0x02000000
  | .reqSetPort _ _ => some 0x03000000
  | .reqGetOption _ _ => some 0x04000000
  | .reqSetOption _ _ => some 0x05000000
  | .reqSetSingle _ _ => some 0x06000000
  | .reqDelSingle _ _ => some 0x07000000
  | .reqToggle _ _ => some 0x08000000
  | .rspNoop _ _ _ => some 0xFF000000
  | .rspSetup _ _ _ => some 0xFE000000
  | .rspGetPort _ _ _ => some 0xFD000000
  | .rspSetPort _ _ _ => some 0xFC000000
  | .rspGetOption _ _ _ => some 0xFB000000
  | .rspSetOption _ _ _ => some 0xFA000000
  | .rspSetSingle _ _ _ => some 0xF9000000
  | .rspDelSingle _ _ _ => some 0xF8000000
  | .rspToggle _ _ _ => some 0xF7000000

/-- The instruction this decoder reads from the bits `w` of a table row (fixed name). A row is one 32-bit word in the view of R32; bits from
`nbits` up are zero, and a word of more than 32 bits is no frame (R45). -/
def decodeTableWord (nbits w : Nat) : Option Instr :=
  if nbits ≤ 32 then
    match decodeFrame (unpackFrame (BitVec.ofNat 32 (w % 2 ^ nbits))) with
    | .ok i => some i
    | .error _ => none
  else none

/-! The encoder. -/

/-- The bytes of a request frame, its checksum computed (R46, R52). -/
def requestBytes (code : Byte) (addr data : Nat) : List Byte :=
  let b1 := BitVec.ofNat 8 addr
  let b2 := BitVec.ofNat 8 data
  [code, b1, b2, code ^^^ b1 ^^^ b2]

/-- The frame bytes of a well-formed row. ENCODE and DECODE "have no binary encoding" (R53): none. -/
def encodeInstr : Instr → Option (List Byte)
  | .encode _ _ _ => none
  | .decode _ => none
  | .reqNoop addr data => some (requestBytes 0x00 addr data)
  | .reqSetup addr data => some (requestBytes 0x01 addr data)
  | .reqGetPort addr data => some (requestBytes 0x02 addr data)
  | .reqSetPort addr data => some (requestBytes 0x03 addr data)
  | .reqGetOption addr data => some (requestBytes 0x04 addr data)
  | .reqSetOption addr data => some (requestBytes 0x05 addr data)
  | .reqSetSingle addr data => some (requestBytes 0x06 addr data)
  | .reqDelSingle addr data => some (requestBytes 0x07 addr data)
  | .reqToggle addr data => some (requestBytes 0x08 addr data)
  | .rspNoop b1 b2 b3 => some [0xFF, b1, b2, b3]
  | .rspSetup b1 b2 b3 => some [0xFE, b1, b2, b3]
  | .rspGetPort b1 b2 b3 => some [0xFD, b1, b2, b3]
  | .rspSetPort b1 b2 b3 => some [0xFC, b1, b2, b3]
  | .rspGetOption b1 b2 b3 => some [0xFB, b1, b2, b3]
  | .rspSetOption b1 b2 b3 => some [0xFA, b1, b2, b3]
  | .rspSetSingle b1 b2 b3 => some [0xF9, b1, b2, b3]
  | .rspDelSingle b1 b2 b3 => some [0xF8, b1, b2, b3]
  | .rspToggle b1 b2 b3 => some [0xF7, b1, b2, b3]

end Sys2Proof
end

