-- ==== Sys2Proof/Machine/State.lean ====
section
/-! DEFINITION. Frames, errors and outcomes (10_state R25 to R29, 60_exceptions R104), and State. -/

namespace Sys2Proof.Machine

/-- The field of a FormatError: CMD, ADDR or DATA (R25, R104). -/
inductive Field where
  | cmd | addr | data
  deriving DecidableEq, Repr

/-- The kind of a ProtocolError with its payload (R27, R104). -/
inductive ProtoKind where
  /-- LENGTH: the length of the buffer. -/
  | length (n : Nat)
  /-- UNKNOWN_CODE: byte 0 of the buffer. -/
  | unknownCode (b0 : Byte)
  /-- CHECKSUM: byte 3 of the buffer, and the XOR of bytes 0 to 2. -/
  | checksum (received computed : Byte)
  deriving DecidableEq, Repr

/-- The two error classes (R103): FormatError with the offending operand as given, ProtocolError with its kind. -/
inductive CodecError where
  | format (field : Field) (value : Nat)
  | protocol (kind : ProtoKind)
  deriving DecidableEq, Repr

/-- A RequestFrame: the four bytes ENCODE returns, `b0` first on the wire (R25, R29, R31). -/
structure RequestFrame where
  b0 : Byte
  b1 : Byte
  b2 : Byte
  b3 : Byte
  deriving DecidableEq, Repr

/-- A ResponseFrame: the record DECODE returns (R28, R88). -/
structure ResponseFrame where
  code : Byte
  address : Byte
  data : Byte
  checksum : Byte
  deriving DecidableEq, Repr

/-- The outcome an operation delivers to the host: `Ok(frame)`, `Ok(rf)` or `Err(e)` (R10, R25, R27, R103). -/
inductive OpOutcome where
  | okFrame (f : RequestFrame)
  | okResponse (rf : ResponseFrame)
  | err (e : CodecError)
  deriving DecidableEq, Repr

/-- The reasons the machine stops with a fault: none. The codec has no trap mechanism, an error is an outcome (R103, R109) and no
operation hangs or is stuck (R10, R131); so no constructor (log 3). -/
inductive Fault where
  deriving DecidableEq, Repr

/-- The reasons a step has no meaning. -/
inductive Refusal where
  /-- Raised by exec's arm of an instruction that has no meaning yet. No arm of this model raises it. Safe. -/
  | notModelled (mnemonic : String)
  /-- Raised by step when the host has issued no operation: the codec takes one step per operation issued (R16), and a sequence ends
  with the outcome of its last operation (R130). DESIGN CHOICE (log 4). Safe: the model stops. -/
  | noOperation
  deriving DecidableEq, Repr

/-- The state. The codec itself holds nothing (R15): both fields are the host's side of the transaction interface. DESIGN CHOICE (log 1). -/
structure State where
  /-- The operations the host issues, the next one first (R16, R18, R41). -/
  pending : List Instr
  /-- The outcomes delivered to the host, the first delivered first (R19, R130). No operation reads them. -/
  outcomes : List OpOutcome
  deriving DecidableEq, Repr

/-- Right after reset: reset sets nothing, for the codec has no state (R119, R120). The host has issued nothing and received nothing.
DESIGN CHOICE (log 2). -/
def State.reset : State where
  pending := []
  outcomes := []

end Sys2Proof.Machine
end

