-- ==== Sys2Proof/Machine/Flags.lean ====
section
/-! DEFINITION. The checksum (30_encoding R52) and the status an outcome carries (60_exceptions R105). The codec has no flags
(10_state R19): neither value is kept anywhere. -/

namespace Sys2Proof.Machine

/-- The checksum of a frame: the bytewise exclusive OR of its first three bytes (R52). -/
def checksum (b0 b1 b2 : Byte) : Byte := b0 ^^^ b1 ^^^ b2

/-- The status code of an error (R105). -/
def errorStatus : CodecError → Nat
  | .format .cmd _ => 1
  | .format .addr _ => 2
  | .format .data _ => 3
  | .protocol (.length _) => 4
  | .protocol (.unknownCode _) => 5
  | .protocol (.checksum _ _) => 6

/-- The status code of an outcome: 0 is OK (R19, R105). -/
def status : OpOutcome → Nat
  | .okFrame _ => 0
  | .okResponse _ => 0
  | .err e => errorStatus e

end Sys2Proof.Machine
end

