-- ==== Sys2Proof/Machine/Operands.lean ====
section
/-! DEFINITION. The operand forms: ENCODE's range checks (40_encode R62 to R65) and the assembly of fields (30_encoding R51). -/

namespace Sys2Proof.Machine

/-- The byte of a checked operand: its value, copied unchanged (R51, R66). -/
def byteOf (v : Nat) : Byte := BitVec.ofNat 8 v

/-- The first failing check of ENCODE's operands, in the order cmd, addr, data (R62, R63, R64, R65), or none. -/
def formatCheck (cmd addr data : Nat) : Option CodecError :=
  if ¬ isCommandCode cmd then some (.format .cmd cmd)
  else if Config.maxField < addr then some (.format .addr addr)
  else if Config.maxField < data then some (.format .data data)
  else none

/-- The bytes of a request frame in wire order (R31). -/
def RequestFrame.bytes (f : RequestFrame) : List Byte := [f.b0, f.b1, f.b2, f.b3]

end Sys2Proof.Machine
end

