-- ==== Sys2Proof/Machine/Ops.lean ====
section
/-! DEFINITION. The shared operations: the two mappings ENCODE (40_encode R61) and DECODE (41_decode R82), delivering an outcome,
reporting an error (60_exceptions R103, R109), and the host's issuing of operations. -/

namespace Sys2Proof.Machine

/-- ENCODE, the serializer (R61): all three checks pass and the whole frame is returned (R66), or one FormatError and no byte (R38, R67). -/
def encodeOp (cmd addr data : Nat) : Except CodecError RequestFrame :=
  match formatCheck cmd addr data with
  | some e => .error e
  | none =>
    .ok { b0 := byteOf cmd, b1 := byteOf addr, b2 := byteOf data,
          b3 := checksum (byteOf cmd) (byteOf addr) (byteOf data) }

/-- DECODE, the deserializer and validator (R82): length (R84), then response code (R85), then checksum (R86), in that order (R87);
otherwise the four bytes unchanged (R88). No other check (R90). -/
def decodeOp (buf : List Byte) : Except CodecError ResponseFrame :=
  match buf with
  | [b0, b1, b2, b3] =>
    if ¬ isResponseCode b0 then .error (.protocol (.unknownCode b0))
    else if checksum b0 b1 b2 ≠ b3 then .error (.protocol (.checksum b3 (checksum b0 b1 b2)))
    else .ok { code := b0, address := b1, data := b2, checksum := b3 }
  | other => .error (.protocol (.length other.length))

/-- The state after an outcome is delivered to the host: nothing of the codec changes (R15, R39). -/
def deliver (o : OpOutcome) (s : State) : State := { s with outcomes := s.outcomes ++ [o] }

/-- Ends an operation with the outcome `o` (R130). -/
def finish (o : OpOutcome) (s : State) : Host.Outcome State Fault Refusal := .next (deliver o s)

/-- Takes an error, the codec's only exception: nothing is saved, no mode changes, control goes nowhere, no partial result is left;
the error is delivered as the operation's result (R103, R109). There is no return from it: the next operation runs as if it had not been (R110). -/
def raiseError (e : CodecError) (s : State) : Host.Outcome State Fault Refusal := finish (.err e) s

/-- Issues ENCODE and delivers its outcome (R61). -/
def runEncode (cmd addr data : Nat) (s : State) : Host.Outcome State Fault Refusal :=
  match encodeOp cmd addr data with
  | .ok f => finish (.okFrame f) s
  | .error e => raiseError e s

/-- Issues DECODE and delivers its outcome (R82). -/
def runDecode (buf : List Byte) (s : State) : Host.Outcome State Fault Refusal :=
  match decodeOp buf with
  | .ok rf => finish (.okResponse rf) s
  | .error e => raiseError e s

/-- The operation the host issues next, and the state in which it runs (R16, R41). -/
def takeOperation (s : State) : Option (Instr × State) :=
  match s.pending with
  | [] => none
  | i :: rest => some (i, { s with pending := rest })

/-- The host issues `i` before the operations it has still to issue (R18). -/
def issueFirst (i : Instr) (s : State) : State := { s with pending := i :: s.pending }

/-- The host issues the operation that a table row's bits stand for. Bits that are no frame issue nothing, and then nothing is to run next.
DESIGN CHOICE (log 5). -/
def issueWord (nbits w : Nat) (s : State) : State :=
  match decodeTableWord nbits w with
  | some i => issueFirst i s
  | none => { s with pending := [] }

end Sys2Proof.Machine
end

