-- ==== Sys2Proof/Machine/Requests.lean ====
section
/-! DEFINITION. The meanings of the nine request frame types: ENCODE with `cmd` fixed (40_encode R72 to R80). -/

namespace Sys2Proof.Machine

/-- REQ.NOOP (R72): `ENCODE(0, addr, data)`. -/
def execReqNoop (addr data : Nat) (s : State) : Host.Outcome State Fault Refusal :=
  runEncode 0x00 addr data s

/-- REQ.SETUP (R73): `ENCODE(1, addr, data)`. -/
def execReqSetup (addr data : Nat) (s : State) : Host.Outcome State Fault Refusal :=
  runEncode 0x01 addr data s

/-- REQ.GETPORT (R74): `ENCODE(2, addr, data)`. -/
def execReqGetPort (addr data : Nat) (s : State) : Host.Outcome State Fault Refusal :=
  runEncode 0x02 addr data s

/-- REQ.SETPORT (R75): `ENCODE(3, addr, data)`. -/
def execReqSetPort (addr data : Nat) (s : State) : Host.Outcome State Fault Refusal :=
  runEncode 0x03 addr data s

/-- REQ.GETOPTION (R76): `ENCODE(4, addr, data)`. -/
def execReqGetOption (addr data : Nat) (s : State) : Host.Outcome State Fault Refusal :=
  runEncode 0x04 addr data s

/-- REQ.SETOPTION (R77): `ENCODE(5, addr, data)`. -/
def execReqSetOption (addr data : Nat) (s : State) : Host.Outcome State Fault Refusal :=
  runEncode 0x05 addr data s

/-- REQ.SETSINGLE (R78): `ENCODE(6, addr, data)`. -/
def execReqSetSingle (addr data : Nat) (s : State) : Host.Outcome State Fault Refusal :=
  runEncode 0x06 addr data s

/-- REQ.DELSINGLE (R79): `ENCODE(7, addr, data)`. -/
def execReqDelSingle (addr data : Nat) (s : State) : Host.Outcome State Fault Refusal :=
  runEncode 0x07 addr data s

/-- REQ.TOGGLE (R80): `ENCODE(8, addr, data)`. -/
def execReqToggle (addr data : Nat) (s : State) : Host.Outcome State Fault Refusal :=
  runEncode 0x08 addr data s

end Sys2Proof.Machine
end

