-- ==== Sys2Proof/Machine/Responses.lean ====
section
/-! DEFINITION. The meanings of the nine response frame types: DECODE of a four-byte buffer with byte 0 fixed (41_decode R94 to R102). -/

namespace Sys2Proof.Machine

/-- RSP.NOOP (R94): `DECODE [FF b1 b2 b3]`. -/
def execRspNoop (b1 b2 b3 : Byte) (s : State) : Host.Outcome State Fault Refusal :=
  runDecode [0xFF, b1, b2, b3] s

/-- RSP.SETUP (R95): `DECODE [FE b1 b2 b3]`. -/
def execRspSetup (b1 b2 b3 : Byte) (s : State) : Host.Outcome State Fault Refusal :=
  runDecode [0xFE, b1, b2, b3] s

/-- RSP.GETPORT (R96): `DECODE [FD b1 b2 b3]`. -/
def execRspGetPort (b1 b2 b3 : Byte) (s : State) : Host.Outcome State Fault Refusal :=
  runDecode [0xFD, b1, b2, b3] s

/-- RSP.SETPORT (R97): `DECODE [FC b1 b2 b3]`. -/
def execRspSetPort (b1 b2 b3 : Byte) (s : State) : Host.Outcome State Fault Refusal :=
  runDecode [0xFC, b1, b2, b3] s

/-- RSP.GETOPTION (R98): `DECODE [FB b1 b2 b3]`. -/
def execRspGetOption (b1 b2 b3 : Byte) (s : State) : Host.Outcome State Fault Refusal :=
  runDecode [0xFB, b1, b2, b3] s

/-- RSP.SETOPTION (R99): `DECODE [FA b1 b2 b3]`. -/
def execRspSetOption (b1 b2 b3 : Byte) (s : State) : Host.Outcome State Fault Refusal :=
  runDecode [0xFA, b1, b2, b3] s

/-- RSP.SETSINGLE (R100): `DECODE [F9 b1 b2 b3]`. -/
def execRspSetSingle (b1 b2 b3 : Byte) (s : State) : Host.Outcome State Fault Refusal :=
  runDecode [0xF9, b1, b2, b3] s

/-- RSP.DELSINGLE (R101): `DECODE [F8 b1 b2 b3]`. -/
def execRspDelSingle (b1 b2 b3 : Byte) (s : State) : Host.Outcome State Fault Refusal :=
  runDecode [0xF8, b1, b2, b3] s

/-- RSP.TOGGLE (R102): `DECODE [F7 b1 b2 b3]`. -/
def execRspToggle (b1 b2 b3 : Byte) (s : State) : Host.Outcome State Fault Refusal :=
  runDecode [0xF7, b1, b2, b3] s

end Sys2Proof.Machine
end

