-- ==== Sys2Proof/Machine/Transactions.lean ====
section
/-! DEFINITION. The meanings of the two interface transactions (30_encoding R53). -/

namespace Sys2Proof.Machine

/-- ENCODE (R61). -/
def execEncode (cmd addr data : Nat) (s : State) : Host.Outcome State Fault Refusal :=
  runEncode cmd addr data s

/-- DECODE (R82). -/
def execDecode (buf : List Byte) (s : State) : Host.Outcome State Fault Refusal :=
  runDecode buf s

end Sys2Proof.Machine
end

