-- ==== Sys2Proof/Machine/Dispatch.lean ====
section
/-! DEFINITION. One arm per row of opcode_table.json. -/

namespace Sys2Proof.Machine

def exec (i : Instr) (s : State) : Host.Outcome State Fault Refusal :=
  match i with
  | .encode cmd addr data => Sys2Proof.Machine.execEncode cmd addr data s
  | .decode buf => Sys2Proof.Machine.execDecode buf s
  | .reqNoop addr data => Sys2Proof.Machine.execReqNoop addr data s
  | .reqSetup addr data => Sys2Proof.Machine.execReqSetup addr data s
  | .reqGetPort addr data => Sys2Proof.Machine.execReqGetPort addr data s
  | .reqSetPort addr data => Sys2Proof.Machine.execReqSetPort addr data s
  | .reqGetOption addr data => Sys2Proof.Machine.execReqGetOption addr data s
  | .reqSetOption addr data => Sys2Proof.Machine.execReqSetOption addr data s
  | .reqSetSingle addr data => Sys2Proof.Machine.execReqSetSingle addr data s
  | .reqDelSingle addr data => Sys2Proof.Machine.execReqDelSingle addr data s
  | .reqToggle addr data => Sys2Proof.Machine.execReqToggle addr data s
  | .rspNoop b1 b2 b3 => Sys2Proof.Machine.execRspNoop b1 b2 b3 s
  | .rspSetup b1 b2 b3 => Sys2Proof.Machine.execRspSetup b1 b2 b3 s
  | .rspGetPort b1 b2 b3 => Sys2Proof.Machine.execRspGetPort b1 b2 b3 s
  | .rspSetPort b1 b2 b3 => Sys2Proof.Machine.execRspSetPort b1 b2 b3 s
  | .rspGetOption b1 b2 b3 => Sys2Proof.Machine.execRspGetOption b1 b2 b3 s
  | .rspSetOption b1 b2 b3 => Sys2Proof.Machine.execRspSetOption b1 b2 b3 s
  | .rspSetSingle b1 b2 b3 => Sys2Proof.Machine.execRspSetSingle b1 b2 b3 s
  | .rspDelSingle b1 b2 b3 => Sys2Proof.Machine.execRspDelSingle b1 b2 b3 s
  | .rspToggle b1 b2 b3 => Sys2Proof.Machine.execRspToggle b1 b2 b3 s

end Sys2Proof.Machine
end

