-- ==== Sys2Proof/Machine/Step.lean ====
section
/-! DEFINITION. One step of the codec: one operation the host issues (10_state R16, 70_reset_and_hazards R131). -/

namespace Sys2Proof.Machine

/-- One step: the operation the host issues next runs to its outcome (R16, R41, R131); with none issued the step is refused (log 4). -/
def step (s : State) : Host.Outcome State Fault Refusal :=
  match takeOperation s with
  | none => .refused .noOperation
  | some (i, s') => exec i s'

/-- The state in which the next step runs the operation that the table bits `w` stand for (fixed name; log 5). -/
def State.withFetchWord (s : State) (nbits w : Nat) : State := issueWord nbits w s

end Sys2Proof.Machine
end

