-- ==== Sys2Proof/Machine/PseudoOps.lean ====
section
/-! DEFINITION. The host's pseudo-operations (30_encoding R60) and its comparison of codes (70_reset_and_hazards R123). Host behaviour,
outside the block (00_scope R5): the machine does not use this file. -/

namespace Sys2Proof.Machine

/-- The host operations of R60's table that are an exchange: one request and its reply. A port is an index 0 to 7 and a mask a byte (R12): an
index outside is the Relay Operations' PortRangeError and reaches no codec operation (R106, W9). `getPort` is not here: its expansion
is not stated (N5). DESIGN CHOICE (log 12). -/
inductive Exchange where
  | getPorts (address : Nat)
  | setPorts (address : Nat) (mask : Byte)
  | setSinglePort (address : Nat) (port : Fin 8) (on : Bool)
  | togglePorts (address : Nat) (mask : Byte)
  | togglePort (address : Nat) (port : Fin 8)
  deriving DecidableEq, Repr

/-- The rows of R60's table. -/
inductive HostOp where
  /-- The request of an exchange: the table's first six rows. -/
  | request (x : Exchange)
  /-- The discovery SETUP pulse, to address 1. -/
  | setupPulse
  /-- Each reply of an exchange: the bytes as the host read them (R83), four of them or, on a short read, fewer (R126). -/
  | reply (x : Exchange) (read : List Byte)
  deriving DecidableEq, Repr

/-- A single-port mask `1 << p` (R60). -/
def portMask (port : Fin 8) : Byte := 1 <<< port.val

/-- `ENCODE <name>, addr, data` in the notation of R59. -/
def encodeNamed (c : Cmd) (addr : Nat) (data : Byte) : Instr := .encode (cmdCode c).toNat addr data.toNat

/-- The ENCODE an exchange issues (R60). -/
def Exchange.encodeRequest : Exchange → Instr
  | .getPorts a => encodeNamed .getPort a Config.reqDataGetPort
  | .setPorts a m => encodeNamed .setPort a m
  | .setSinglePort a p true => encodeNamed .setSingle a (portMask p)
  | .setSinglePort a p false => encodeNamed .delSingle a (portMask p)
  | .togglePorts a m => encodeNamed .toggle a m
  | .togglePort a p => encodeNamed .toggle a (portMask p)

/-- The response code the host expects in an exchange's reply (R60). -/
def Exchange.replyCode : Exchange → Byte
  | .getPorts _ => 0xFD
  | .setPorts _ _ => 0xFC
  | .setSinglePort _ _ true => 0xF9
  | .setSinglePort _ _ false => 0xF8
  | .togglePorts _ _ => 0xF7
  | .togglePort _ _ => 0xF7

/-- The codec operation a host operation issues (R60). -/
def HostOp.expand : HostOp → Instr
  | .request x => x.encodeRequest
  | .setupPulse => encodeNamed .setup 1 Config.reqDataSetup
  | .reply _ read => .decode read

/-- The response code the host expects (R60): for a reply, "as above", its exchange's; none for the discovery pulse, whose echo is scanned
raw (C4). -/
def HostOp.expectedCode : HostOp → Option Byte
  | .request x => some x.replyCode
  | .setupPulse => none
  | .reply x _ => some x.replyCode

/-- The host's comparison of a reply's code with `255 − cmd` of the request it sent (R123). -/
def answersRequest (cmd : Byte) (rf : ResponseFrame) : Bool := rf.code == pairedCode cmd

/-- The four-byte window that starts `offset` bytes into a stream (R35). -/
def window (offset : Nat) (stream : List Byte) : List Byte := (stream.drop offset).take Config.frameLen

end Sys2Proof.Machine
end

