-- ==== Sys2Proof/Safety.lean ====
section
/-! DEFINITION. The terms the statements use: what an operation delivers, which outcomes are sound, and what a frame row means. -/

namespace Sys2Proof.Machine

/-- In every state the operation answers a next state: the outcome `o` is delivered after the earlier ones and nothing else changes
(R39, R103, R109, R131). It is the operation's completion, its result and its frame in one. That the outcomes stand in State is
the model's choice (log 1). -/
def Delivers (i : Instr) (o : OpOutcome) : Prop :=
  ∀ s : State, exec i s = .next { pending := s.pending, outcomes := s.outcomes ++ [o] }

/-- The invariants of the records (R28, R29) and the causes of the errors (R104), in numbers and not by the model's own tables. -/
def OpOutcome.Sound : OpOutcome → Prop
  | .okFrame f => f.b0.toNat ≤ 8 ∧ f.b3 = f.b0 ^^^ f.b1 ^^^ f.b2
  | .okResponse rf => 247 ≤ rf.code.toNat ∧ rf.checksum = rf.code ^^^ rf.address ^^^ rf.data
  | .err (.format .cmd v) => 8 < v
  | .err (.format .addr v) => 255 < v
  | .err (.format .data v) => 255 < v
  | .err (.protocol (.length n)) => n ≠ 4
  | .err (.protocol (.unknownCode b0)) => b0.toNat < 247
  | .err (.protocol (.checksum received computed)) => received ≠ computed

/-- A safe run: every outcome the host has received is sound. -/
def State.Sound (s : State) : Prop := ∀ o ∈ s.outcomes, o.Sound

/-- What the rule of one request row says (R72 to R80): its pseudocode on operands in range, its two errors in order, the corner case
`addr = data`, the row's match under the mask, and the paired response code. -/
def RequestRowMeans (row : Nat → Nat → Instr) (code paired : Byte) : Prop :=
  (∀ addr data, addr ≤ 255 → data ≤ 255 →
    ∃ f : RequestFrame, Delivers (row addr data) (.okFrame f) ∧
      f.b0 = code ∧ f.b1.toNat = addr ∧ f.b2.toNat = data ∧ f.b3 = code ^^^ f.b1 ^^^ f.b2 ∧
      (addr = data → f.b3 = code) ∧
      packFrame f.b0 f.b1 f.b2 f.b3 &&& 0xFF000000#32 = code.setWidth 32 <<< 24) ∧
  (∀ addr data, 255 < addr → Delivers (row addr data) (.err (.format .addr addr))) ∧
  (∀ addr data, addr ≤ 255 → 255 < data → Delivers (row addr data) (.err (.format .data data))) ∧
  paired.toNat = 255 - code.toNat

/-- What the rule of one response row says (R94 to R102): its pseudocode on either side of the checksum test, the corruptions it does not
see (the same bits flipped in address and data, their exchange among them), the row's match under the mask, and the request code it answers. -/
def ResponseRowMeans (row : Byte → Byte → Byte → Instr) (code answered : Byte) : Prop :=
  (∀ b1 b2 b3, b3 = code ^^^ b1 ^^^ b2 → Delivers (row b1 b2 b3) (.okResponse ⟨code, b1, b2, b3⟩)) ∧
  (∀ b1 b2 b3, b3 ≠ code ^^^ b1 ^^^ b2 →
    Delivers (row b1 b2 b3) (.err (.protocol (.checksum b3 (code ^^^ b1 ^^^ b2))))) ∧
  (∀ b1 b2 e, Delivers (row (b1 ^^^ e) (b2 ^^^ e) (code ^^^ b1 ^^^ b2))
    (.okResponse ⟨code, b1 ^^^ e, b2 ^^^ e, code ^^^ b1 ^^^ b2⟩)) ∧
  (∀ b1 b2 b3, packFrame code b1 b2 b3 &&& 0xFF000000#32 = code.setWidth 32 <<< 24) ∧
  (∀ b1 b2 b3 s, exec (row b1 b2 b3) s = exec (.decode [code, b1, b2, b3]) s) ∧
  answered.toNat = 255 - code.toNat

/-- The host operation issues an operation that delivers the request frame of these three values (R60, R66). -/
def HostOp.Sends (h : HostOp) (code addr data : Nat) : Prop :=
  ∃ f : RequestFrame, Delivers h.expand (.okFrame f) ∧
    f.b0.toNat = code ∧ f.b1.toNat = addr ∧ f.b2.toNat = data ∧ f.b3.toNat = code ^^^ addr ^^^ data

end Sys2Proof.Machine
end

