-- ==== Sys2Proof/Certificates/Slice0/Obligations.lean ====
section
/-! DEFINITION. The statements for the provers. Each docstring names the rule it formalises. -/

open Sys2Proof Sys2Proof.Machine

/-! ## Running operations -/

/-- R39, R131 (and R15, R10): every operation terminates in one step with exactly one outcome, a function of its operands alone,
and leaves nothing else changed. The frame of all twenty instructions. -/
def Obligations.EveryOperationDeliversOneOutcome : Prop :=
  ∀ i : Instr, ∃ o, Delivers i o ∧ ∀ s t, exec i s = .next t → t.pending = s.pending ∧ t.outcomes = s.outcomes ++ [o]

/-- R110: after any outcome, OK or error, the next operation behaves as it would have without the earlier one. -/
def Obligations.EarlierOperationLeavesNothingBehind : Prop :=
  ∀ (i j : Instr) (s : State), ∃ oi oj t, exec i s = .next t ∧ t.outcomes = s.outcomes ++ [oi] ∧
    exec j t = .next { pending := s.pending, outcomes := s.outcomes ++ [oi] ++ [oj] } ∧
    exec j s = .next { pending := s.pending, outcomes := s.outcomes ++ [oj] }

/-- R18, R41, R130: a run of the operations the host issued completes them in the order issued; the n-th outcome is that of the n-th
operation, whatever the others are, and the sequence ends when the last outcome is delivered. That the sequence and the outcomes stand in
State is the model's choice (log 1). -/
def Obligations.SequenceDeliversOutcomesInOrder : Prop :=
  ∀ s : State, ∃ os : List OpOutcome, os.length = s.pending.length ∧
    core.run s.pending.length s = .next { pending := [], outcomes := s.outcomes ++ os } ∧
    ∀ (n : Nat) (i : Instr), s.pending[n]? = some i → ∃ o, os[n]? = some o ∧ Delivers i o

/-- R16: one step runs the operation the host issues next, exactly as exec says, and takes it off the sequence. -/
def Obligations.StepRunsTheNextOperation : Prop :=
  ∀ (i : Instr) (rest : List Instr) (os : List OpOutcome),
    step { pending := i :: rest, outcomes := os } = exec i { pending := rest, outcomes := os }

/-- Log 5: when a table row's bits decode to an instruction, the next step of the state they are placed in is exec of it. -/
def Obligations.StepRunsTheDecodedWord : Prop :=
  ∀ (nbits w : Nat) (i : Instr) (s : State), decodeTableWord nbits w = some i →
    step (s.withFetchWord nbits w) = exec i s

/-- Log 4: with no operation issued there is no step. -/
def Obligations.StepWithNothingIssuedIsRefused : Prop :=
  ∀ os : List OpOutcome, step { pending := [], outcomes := os } = .refused .noOperation

/-- Log 2: reset leaves nothing issued and nothing delivered, and the first operation after it delivers what it always does (R119). -/
def Obligations.ResetHoldsNothing : Prop :=
  State.reset.pending = [] ∧ State.reset.outcomes = [] ∧
    ∀ (i : Instr) (s : State) (o : OpOutcome),
      exec i s = .next { pending := s.pending, outcomes := s.outcomes ++ [o] } →
      exec i State.reset = .next { pending := [], outcomes := [o] }

/-- The reset state is sound: the host has received no outcome, which is the model's choice (log 2), for reset itself sets nothing (R119). What
sound means is R28, R29 and R104. -/
def Obligations.ResetIsSound : Prop := State.reset.Sound

/-- R28, R29, R104: every step keeps the invariants of the records and the causes of the errors, from every sound state. -/
def Obligations.StepKeepsSoundness : Prop :=
  ∀ s t : State, s.Sound → step s = .next t → t.Sound

/-! ## ENCODE -/

/-- R66: when all three checks pass, ENCODE returns the frame of its operands, copied unchanged, with the checksum. -/
def Obligations.EncodeReturnsTheFrame : Prop :=
  ∀ cmd addr data : Nat, cmd ≤ 8 → addr ≤ 255 → data ≤ 255 →
    ∃ f : RequestFrame, Delivers (.encode cmd addr data) (.okFrame f) ∧
      f.b0.toNat = cmd ∧ f.b1.toNat = addr ∧ f.b2.toNat = data ∧ f.b3.toNat = cmd ^^^ addr ^^^ data

/-- R62 to R65 (and R55): a `cmd` above 8, an `addr` above 255 and a `data` above 255 each raise their FormatError, and the first failing
check wins, in the order cmd, addr, data. -/
def Obligations.EncodeErrorsInOrder : Prop :=
  ∀ cmd addr data : Nat,
    (8 < cmd → Delivers (.encode cmd addr data) (.err (.format .cmd cmd))) ∧
    (cmd ≤ 8 → 255 < addr → Delivers (.encode cmd addr data) (.err (.format .addr addr))) ∧
    (cmd ≤ 8 → addr ≤ 255 → 255 < data → Delivers (.encode cmd addr data) (.err (.format .data data)))

/-- R70 items 1 to 4: ENCODE is total, and on valid triples it is injective, its four bytes XOR to zero and byte 3 is the XOR. -/
def Obligations.EncodeLaws : Prop :=
  (∀ cmd addr data : Nat, ∃! o, Delivers (.encode cmd addr data) o) ∧
  (∀ (cmd addr data cmd' addr' data' : Nat) (f : RequestFrame),
    Delivers (.encode cmd addr data) (.okFrame f) → Delivers (.encode cmd' addr' data') (.okFrame f) →
      cmd = cmd' ∧ addr = addr' ∧ data = data') ∧
  (∀ (cmd addr data : Nat) (f : RequestFrame), Delivers (.encode cmd addr data) (.okFrame f) →
    f.b0 ^^^ f.b1 ^^^ f.b2 ^^^ f.b3 = 0 ∧ f.b3.toNat = cmd ^^^ addr ^^^ data)

/-- R70 item 5: there are exactly 9 × 256 × 256 = 589,824 distinct request frames. -/
def Obligations.RequestFramesNumber589824 : Prop :=
  {f : RequestFrame | ∃ cmd addr data, Delivers (.encode cmd addr data) (.okFrame f)}.ncard = 589824

/-- R68: the boundary values 0 and 255 of the address and data fields are accepted, and 256 is the first refused value. -/
def Obligations.EncodeAcceptsFieldBoundaries : Prop :=
  ∀ cmd : Nat, cmd ≤ 8 →
    (∀ v, v = 0 ∨ v = 255 → ∀ w ≤ 255, ∃ f g : RequestFrame,
      Delivers (.encode cmd v w) (.okFrame f) ∧ f.b1.toNat = v ∧
      Delivers (.encode cmd w v) (.okFrame g) ∧ g.b2.toNat = v) ∧
    (∀ w ≤ 255, Delivers (.encode cmd 256 w) (.err (.format .addr 256)) ∧
      Delivers (.encode cmd w 256) (.err (.format .data 256)))

/-- R69: operands that coincide have no special behaviour: equal fields leave the code, operands that XOR to zero give checksum 0x00, and
a checksum may equal a code byte of either table. -/
def Obligations.EncodeCoincidingOperands : Prop :=
  (∀ cmd v : Nat, cmd ≤ 8 → v ≤ 255 → ∃ f, Delivers (.encode cmd v v) (.okFrame f) ∧ f.b3.toNat = cmd) ∧
  (∀ cmd addr data : Nat, cmd ≤ 8 → addr ≤ 255 → data ≤ 255 → cmd ^^^ addr ^^^ data = 0 →
    ∃ f, Delivers (.encode cmd addr data) (.okFrame f) ∧ f.b3 = 0x00) ∧
  (∀ code : Byte, code ∈ cmdTable ∨ code ∈ rspTable →
    ∃ cmd addr data f, Delivers (.encode cmd addr data) (.okFrame f) ∧ f.b3 = code)

/-- R24: an implementation with 8-bit address and data ports meets no FormatError but CMD. -/
def Obligations.EightBitPortsRaiseOnlyCommandErrors : Prop :=
  ∀ (cmd : Nat) (addr data : Byte) (e : CodecError),
    Delivers (.encode cmd addr.toNat data.toNat) (.err e) ↔ (8 < cmd ∧ e = .format .cmd cmd)

/-- R72 to R80: the nine request rows, each with its code and its paired response code. -/
def Obligations.RequestRowsMeanTheirRules : Prop :=
  RequestRowMeans .reqNoop 0x00 0xFF ∧ RequestRowMeans .reqSetup 0x01 0xFE ∧
  RequestRowMeans .reqGetPort 0x02 0xFD ∧ RequestRowMeans .reqSetPort 0x03 0xFC ∧
  RequestRowMeans .reqGetOption 0x04 0xFB ∧ RequestRowMeans .reqSetOption 0x05 0xFA ∧
  RequestRowMeans .reqSetSingle 0x06 0xF9 ∧ RequestRowMeans .reqDelSingle 0x07 0xF8 ∧
  RequestRowMeans .reqToggle 0x08 0xF7

/-! ## DECODE -/

/-- R88: when all three checks pass, DECODE returns the four bytes unchanged; `255 − code` is the command code the reply answers. -/
def Obligations.DecodeReturnsTheFourBytes : Prop :=
  ∀ b0 b1 b2 b3 : Byte, 247 ≤ b0.toNat → b0 ^^^ b1 ^^^ b2 = b3 →
    Delivers (.decode [b0, b1, b2, b3]) (.okResponse { code := b0, address := b1, data := b2, checksum := b3 }) ∧
      (pairedCode b0).toNat = 255 - b0.toNat ∧ pairedCode b0 ∈ cmdTable

/-- R84, R85, R86, R87 (and R56): the first failing check wins, in the order length, response code, checksum. -/
def Obligations.DecodeErrorsInOrder : Prop :=
  (∀ buf : List Byte, buf.length ≠ 4 → Delivers (.decode buf) (.err (.protocol (.length buf.length)))) ∧
  (∀ b0 b1 b2 b3 : Byte, b0.toNat < 247 →
    Delivers (.decode [b0, b1, b2, b3]) (.err (.protocol (.unknownCode b0)))) ∧
  (∀ b0 b1 b2 b3 : Byte, 247 ≤ b0.toNat → b0 ^^^ b1 ^^^ b2 ≠ b3 →
    Delivers (.decode [b0, b1, b2, b3]) (.err (.protocol (.checksum b3 (b0 ^^^ b1 ^^^ b2)))))

/-- R92 items 1 and 2, and R90: DECODE is total, and it accepts a list exactly when it has length 4, a response code first and XOR zero. -/
def Obligations.DecodeAcceptsExactlyTheFrames : Prop :=
  ∀ buf : List Byte, (∃! o, Delivers (.decode buf) o) ∧
    ((∃ rf, Delivers (.decode buf) (.okResponse rf)) ↔
      ∃ b0 b1 b2 b3 : Byte, buf = [b0, b1, b2, b3] ∧ 247 ≤ b0.toNat ∧ b0 ^^^ b1 ^^^ b2 ^^^ b3 = 0)

/-- R92 item 3: exactly 9 × 256 × 256 = 589,824 buffers are accepted. -/
def Obligations.AcceptedBuffersNumber589824 : Prop :=
  {buf : List Byte | ∃ rf, Delivers (.decode buf) (.okResponse rf)}.ncard = 589824

/-- R94 to R102: the nine response rows, each with its code and the request code it answers. -/
def Obligations.ResponseRowsMeanTheirRules : Prop :=
  ResponseRowMeans .rspNoop 0xFF 0x00 ∧ ResponseRowMeans .rspSetup 0xFE 0x01 ∧
  ResponseRowMeans .rspGetPort 0xFD 0x02 ∧ ResponseRowMeans .rspSetPort 0xFC 0x03 ∧
  ResponseRowMeans .rspGetOption 0xFB 0x04 ∧ ResponseRowMeans .rspSetOption 0xFA 0x05 ∧
  ResponseRowMeans .rspSetSingle 0xF9 0x06 ∧ ResponseRowMeans .rspDelSingle 0xF8 0x07 ∧
  ResponseRowMeans .rspToggle 0xF7 0x08

/-- R81 (and R92 item 5): a request frame is never accepted by DECODE; `DECODE(ENCODE(c, a, d))` is UNKNOWN_CODE c for every valid triple. -/
def Obligations.RequestFrameIsNeverAccepted : Prop :=
  ∀ cmd addr data : Nat, cmd ≤ 8 → addr ≤ 255 → data ≤ 255 →
    ∃ f : RequestFrame, Delivers (.encode cmd addr data) (.okFrame f) ∧ f.b0.toNat = cmd ∧
      Delivers (.decode [f.b0, f.b1, f.b2, f.b3]) (.err (.protocol (.unknownCode f.b0)))

/-- R93: a reply with the paired code and the request's address and data is accepted exactly with the request's checksum XOR 0xFF. -/
def Obligations.EchoedReplyChecksumIsComplement : Prop :=
  ∀ cmd addr data : Nat, cmd ≤ 8 → addr ≤ 255 → data ≤ 255 →
    ∃ f : RequestFrame, Delivers (.encode cmd addr data) (.okFrame f) ∧
      ∀ x : Byte, (∃ rf, Delivers (.decode [255 - f.b0, f.b1, f.b2, x]) (.okResponse rf)) ↔ x = f.b3 ^^^ 0xFF

/-- R125: for an accepted frame and any four error bytes that leave the code a response code, DECODE refuses the received frame exactly when
the error bytes XOR to something other than zero; so a corruption of one byte, or one that flips some bit position in an odd number
of bytes, is detected, and an exchange of address and data is not. -/
def Obligations.ChecksumDetectsExactlyNonzeroErrors : Prop :=
  ∀ (b0 b1 b2 b3 e0 e1 e2 e3 : Byte), 247 ≤ b0.toNat → b0 ^^^ b1 ^^^ b2 = b3 →
    (247 ≤ (b0 ^^^ e0).toNat →
      ((∃ received computed, Delivers (.decode [b0 ^^^ e0, b1 ^^^ e1, b2 ^^^ e2, b3 ^^^ e3])
          (.err (.protocol (.checksum received computed)))) ↔ e0 ^^^ e1 ^^^ e2 ^^^ e3 ≠ 0) ∧
      (e0 ^^^ e1 ^^^ e2 ^^^ e3 = 0 → Delivers (.decode [b0 ^^^ e0, b1 ^^^ e1, b2 ^^^ e2, b3 ^^^ e3])
        (.okResponse ⟨b0 ^^^ e0, b1 ^^^ e1, b2 ^^^ e2, b3 ^^^ e3⟩))) ∧
    (∀ rf, (∃ n : Nat, (e0.getLsbD n ^^ e1.getLsbD n ^^ e2.getLsbD n ^^ e3.getLsbD n) = true) →
      ¬ Delivers (.decode [b0 ^^^ e0, b1 ^^^ e1, b2 ^^^ e2, b3 ^^^ e3]) (.okResponse rf)) ∧
    Delivers (.decode [b0, b2, b1, b3]) (.okResponse ⟨b0, b2, b1, b3⟩)

/-- R35: DECODE applies its two checks to whatever four bytes a window of a stream holds, wherever it starts, and accepts a misaligned
window when both pass. -/
def Obligations.MisalignedWindowIsDecodedAsGiven : Prop :=
  (∀ (stream : List Byte) (offset : Nat), offset + 4 ≤ stream.length →
    ∃ b0 b1 b2 b3 : Byte, window offset stream = [b0, b1, b2, b3] ∧ stream[offset]? = some b0 ∧
      (b0.toNat < 247 → Delivers (.decode (window offset stream)) (.err (.protocol (.unknownCode b0)))) ∧
      (247 ≤ b0.toNat → b0 ^^^ b1 ^^^ b2 ≠ b3 →
        Delivers (.decode (window offset stream)) (.err (.protocol (.checksum b3 (b0 ^^^ b1 ^^^ b2))))) ∧
      (247 ≤ b0.toNat → b0 ^^^ b1 ^^^ b2 = b3 →
        Delivers (.decode (window offset stream)) (.okResponse ⟨b0, b1, b2, b3⟩))) ∧
  Delivers (.decode (window 3 [0xFF, 0x00, 0x00, 0xFF, 0xFF, 0x00, 0x00, 0xFF])) (.okResponse ⟨0xFF, 0xFF, 0x00, 0x00⟩)

/-- R123: an Ok shows only a well-formed frame: every response code is accepted whatever was sent, and the host's comparison with
`255 − cmd` is what tells the reply to a request from any other valid code. -/
def Obligations.OnlyTheHostComparisonCatchesStaleReplies : Prop :=
  ∀ (sent replied : Cmd) (address data : Byte), ∃ rf : ResponseFrame,
    Delivers (.decode [rspCode replied, address, data, rspCode replied ^^^ address ^^^ data]) (.okResponse rf) ∧
      rf.code = rspCode replied ∧ (answersRequest (cmdCode sent) rf = true ↔ replied = sent)

/-! ## Codes, checksum and errors -/

/-- R47, R48, R49: the two tables hold their nine codes, and each response code is `255 −` its command code. -/
def Obligations.CodeTablesAndPairing : Prop :=
  (∀ n : Nat, isCommandCode n = true ↔ n ≤ 8) ∧ (∀ b : Byte, isResponseCode b = true ↔ 247 ≤ b.toNat) ∧
  Cmd.all.map (fun c => (c, cmdCode c, rspCode c)) =
    [(.noop, 0x00, 0xFF), (.setup, 0x01, 0xFE), (.getPort, 0x02, 0xFD), (.setPort, 0x03, 0xFC), (.getOption, 0x04, 0xFB),
     (.setOption, 0x05, 0xFA), (.setSingle, 0x06, 0xF9), (.delSingle, 0x07, 0xF8), (.toggle, 0x08, 0xF7)] ∧
  (∀ c : Cmd, pairedCode (cmdCode c) = rspCode c ∧ pairedCode (rspCode c) = cmdCode c) ∧
  (∀ b : Byte, pairedCode b = b ^^^ 0xFF ∧ (pairedCode b).toNat = 255 - b.toNat)

/-- R54: the three classes of a code byte, as ENCODE's `cmd` and as DECODE's `buf[0]`. -/
def Obligations.CodeBytesSplitInThreeClasses : Prop :=
  ∀ code : Byte, ∀ b1 b2 b3 : Byte,
    (code.toNat ≤ 8 →
      (∃ f, Delivers (.encode code.toNat b1.toNat b2.toNat) (.okFrame f)) ∧
      Delivers (.decode [code, b1, b2, b3]) (.err (.protocol (.unknownCode code)))) ∧
    (9 ≤ code.toNat → code.toNat ≤ 246 →
      Delivers (.encode code.toNat b1.toNat b2.toNat) (.err (.format .cmd code.toNat)) ∧
      Delivers (.decode [code, b1, b2, b3]) (.err (.protocol (.unknownCode code)))) ∧
    (247 ≤ code.toNat →
      Delivers (.encode code.toNat b1.toNat b2.toNat) (.err (.format .cmd code.toNat)) ∧
      ((∃ rf, Delivers (.decode [code, b1, b2, b3]) (.okResponse rf)) ↔ code ^^^ b1 ^^^ b2 = b3)) ∧
    (∀ n, 255 < n → Delivers (.encode n b1.toNat b2.toNat) (.err (.format .cmd n)))

/-- R52: the checksum is the XOR of the first three bytes in any order, and a frame satisfies it exactly when all four XOR to zero. -/
def Obligations.ChecksumIsXorInAnyOrder : Prop :=
  ∀ b0 b1 b2 b3 : Byte,
    (checksum b0 b1 b2).toNat = b0.toNat ^^^ b1.toNat ^^^ b2.toNat ∧
    checksum b0 b1 b2 = checksum b1 b0 b2 ∧ checksum b0 b1 b2 = checksum b0 b2 b1 ∧
    (b3 = checksum b0 b1 b2 ↔ b0 ^^^ b1 ^^^ b2 ^^^ b3 = 0)

/-- R104 and R108: the complete list of the errors of the two operations, each with its cause and payload, at most one per operation;
no FormatError comes from DECODE and no ProtocolError from ENCODE (R103). -/
def Obligations.ErrorListIsComplete : Prop :=
  (∀ (cmd addr data : Nat) (e : CodecError), Delivers (.encode cmd addr data) (.err e) ↔
    (8 < cmd ∧ e = .format .cmd cmd) ∨
    (cmd ≤ 8 ∧ 255 < addr ∧ e = .format .addr addr) ∨
    (cmd ≤ 8 ∧ addr ≤ 255 ∧ 255 < data ∧ e = .format .data data)) ∧
  (∀ (buf : List Byte) (e : CodecError), Delivers (.decode buf) (.err e) ↔
    (buf.length ≠ 4 ∧ e = .protocol (.length buf.length)) ∨
    (∃ b0 b1 b2 b3, buf = [b0, b1, b2, b3] ∧ b0.toNat < 247 ∧ e = .protocol (.unknownCode b0)) ∨
    (∃ b0 b1 b2 b3, buf = [b0, b1, b2, b3] ∧ 247 ≤ b0.toNat ∧ b0 ^^^ b1 ^^^ b2 ≠ b3 ∧
      e = .protocol (.checksum b3 (b0 ^^^ b1 ^^^ b2))))

/-- R105: the status codes, and that values 7 and above are never produced. -/
def Obligations.StatusCodesFollowTheTable : Prop :=
  (∀ f, status (.okFrame f) = 0) ∧ (∀ rf, status (.okResponse rf) = 0) ∧
  (∀ v, status (.err (.format .cmd v)) = 1 ∧ status (.err (.format .addr v)) = 2 ∧
    status (.err (.format .data v)) = 3 ∧ status (.err (.protocol (.length v))) = 4) ∧
  (∀ b0, status (.err (.protocol (.unknownCode b0))) = 5) ∧
  (∀ received computed, status (.err (.protocol (.checksum received computed))) = 6) ∧
  (∀ (i : Instr) (o : OpOutcome), Delivers i o → status o < 7)

/-! ## Frames as table words -/

/-- R46, R50, R32: every well-formed frame row has four bytes that decode to it again with all its operands, as bytes and as the
32-bit word of the opcode table. -/
def Obligations.EncodedRowsDecodeToThemselves : Prop :=
  ∀ i : Instr, i.wf = true → (∀ cmd addr data, i ≠ .encode cmd addr data) → (∀ buf, i ≠ .decode buf) →
    ∃ b0 b1 b2 b3 : Byte, encodeInstr i = some [b0, b1, b2, b3] ∧ decodeFrame [b0, b1, b2, b3] = .ok i ∧
      decodeTableWord 32 (packFrame b0 b1 b2 b3).toNat = some i

/-- R46, R50: what the decoder reads is well formed and encodes back to the same bytes; a request row's checksum byte, which is not read
(log 6), comes back computed. -/
def Obligations.DecodedBytesEncodeBack : Prop :=
  ∀ (bytes : List Byte) (i : Instr), decodeFrame bytes = .ok i → i.wf = true ∧
    ∃ b0 b1 b2 b3 k : Byte, bytes = [b0, b1, b2, b3] ∧ encodeInstr i = some [b0, b1, b2, k] ∧
      (247 ≤ b0.toNat → k = b3) ∧ (b0.toNat ≤ 8 → k = b0 ^^^ b1 ^^^ b2)

/-- R57 and opcode_table.json: byte 0 selects one row, the one whose match the word has under the mask, or the word is rejected by name. -/
def Obligations.CodeByteSelectsTheTableRow : Prop :=
  (∀ (w : Word32) (i : Instr), decodeFrame (unpackFrame w) = .ok i → rowMatch i = some (w &&& rowMask)) ∧
  (∀ b0 b1 b2 b3 : Byte, (∃ i, decodeFrame [b0, b1, b2, b3] = .ok i) ↔ b0.toNat ≤ 8 ∨ 247 ≤ b0.toNat) ∧
  (∀ b0 b1 b2 b3 : Byte, 9 ≤ b0.toNat → b0.toNat ≤ 246 →
    decodeFrame [b0, b1, b2, b3] = .error (.unassignedCode b0)) ∧
  (∀ bytes : List Byte, bytes.length ≠ 4 → decodeFrame bytes = .error (.wrongLength bytes.length))

/-- R47, R48, R32: words written out from the opcode table decode to their rows (a sanity statement). -/
def Obligations.WrittenWordsDecode : Prop :=
  decodeTableWord 32 0x06032025 = some (.reqSetSingle 3 0x20) ∧
  decodeTableWord 32 0x0804818D = some (.reqToggle 4 0x81) ∧
  decodeTableWord 32 0xFD0001FC = some (.rspGetPort 0x00 0x01 0xFC) ∧
  decodeTableWord 32 0xF60000F6 = none ∧
  decodeTableWord 32 0xF90321DA = some (.rspSetSingle 0x03 0x21 0xDA)

/-! ## The host's pseudo-operations -/

/-- R60's table, row by row: the command code, the address and the data byte each host operation sends, and the response code the host
expects; an address above 255 is ENCODE's FormatError(ADDR); each reply is DECODE of the bytes read, with its exchange's code expected.
The data bytes of GETPORT and SETUP are the open parameters, whatever they are: constants without a body are the model's choice (log 11). The
shape of the host operations, a port below 8 and a mask byte, and no `getPort`, is the model's choice (log 12). -/
def Obligations.PseudoOperationsEncodeTheirFrames : Prop :=
  (∀ a ≤ 255,
    (HostOp.request (.getPorts a)).Sends 0x02 a Config.reqDataGetPort.toNat ∧
    (∀ m : Byte, (HostOp.request (.setPorts a m)).Sends 0x03 a m.toNat ∧
      (HostOp.request (.togglePorts a m)).Sends 0x08 a m.toNat) ∧
    (∀ p : Fin 8, (HostOp.request (.setSinglePort a p true)).Sends 0x06 a (2 ^ p.val) ∧
      (HostOp.request (.setSinglePort a p false)).Sends 0x07 a (2 ^ p.val) ∧
      (HostOp.request (.togglePort a p)).Sends 0x08 a (2 ^ p.val))) ∧
  HostOp.setupPulse.Sends 0x01 1 Config.reqDataSetup.toNat ∧
  (∀ (a : Nat) (m : Byte) (p : Fin 8) (on : Bool), 255 < a →
    ∀ x ∈ [Exchange.getPorts a, .setPorts a m, .setSinglePort a p on, .togglePorts a m, .togglePort a p],
      Delivers (HostOp.request x).expand (.err (.format .addr a))) ∧
  (∀ (a : Nat) (m : Byte) (p : Fin 8),
    (HostOp.request (.getPorts a)).expectedCode = some 0xFD ∧
    (HostOp.request (.setPorts a m)).expectedCode = some 0xFC ∧
    (HostOp.request (.setSinglePort a p true)).expectedCode = some 0xF9 ∧
    (HostOp.request (.setSinglePort a p false)).expectedCode = some 0xF8 ∧
    (HostOp.request (.togglePorts a m)).expectedCode = some 0xF7 ∧
    (HostOp.request (.togglePort a p)).expectedCode = some 0xF7) ∧
  HostOp.setupPulse.expectedCode = none ∧
  (∀ (x : Exchange) (read : List Byte), (HostOp.reply x read).expand = .decode read ∧
    (HostOp.reply x read).expectedCode = (HostOp.request x).expectedCode)
end

