-- ==== Sys2Proof/Laws/State.lean ====
section
/-! SUPPORT. One lemma per field per update of State. -/

namespace Sys2Proof.Machine

@[simp] theorem deliver_pending (o : OpOutcome) (s : State) : (deliver o s).pending = s.pending := rfl

@[simp] theorem deliver_outcomes (o : OpOutcome) (s : State) : (deliver o s).outcomes = s.outcomes ++ [o] := rfl

@[simp] theorem issueFirst_pending (i : Instr) (s : State) : (issueFirst i s).pending = i :: s.pending := rfl

@[simp] theorem issueFirst_outcomes (i : Instr) (s : State) : (issueFirst i s).outcomes = s.outcomes := rfl

@[simp] theorem reset_pending : State.reset.pending = [] := rfl

@[simp] theorem reset_outcomes : State.reset.outcomes = [] := rfl

@[simp] theorem takeOperation_nil (os : List OpOutcome) : takeOperation ⟨[], os⟩ = none := rfl

@[simp] theorem takeOperation_cons (i : Instr) (rest : List Instr) (os : List OpOutcome) :
    takeOperation ⟨i :: rest, os⟩ = some (i, ⟨rest, os⟩) := rfl

@[simp] theorem takeOperation_issueFirst (i : Instr) (s : State) : takeOperation (issueFirst i s) = some (i, s) := rfl

end Sys2Proof.Machine
end

