-- ==== Sys2Proof/Laws/Tables.lean ====
section
/-! SUPPORT. The membership tests and the code tables in numbers. -/

namespace Sys2Proof

@[simp] theorem fieldOk_iff (v : Nat) : fieldOk v = true ↔ v ≤ 255 := by
  rw [fieldOk, decide_eq_true_eq]
  rfl

theorem isCommandCode_iff (n : Nat) : isCommandCode n = true ↔ n ≤ 8 := by
  simp [isCommandCode, cmdTable, Cmd.all, cmdCode]
  omega

theorem isResponseCode_iff (b : Byte) : isResponseCode b = true ↔ 247 ≤ b.toNat := by
  revert b
  decide

@[simp] theorem cmdOfCode_cmdCode (c : Cmd) : cmdOfCode (cmdCode c) = some c := by
  cases c <;> decide

@[simp] theorem rspOfCode_rspCode (c : Cmd) : rspOfCode (rspCode c) = some c := by
  cases c <;> decide

@[simp] theorem cmdOfCode_rspCode (c : Cmd) : cmdOfCode (rspCode c) = none := by
  cases c <;> decide

theorem cmdOfCode_eq_none (b : Byte) (h : 8 < b.toNat) : cmdOfCode b = none := by
  revert b
  decide

theorem rspOfCode_eq_none (b : Byte) (h : b.toNat < 247) : rspOfCode b = none := by
  revert b
  decide

theorem cmdOfCode_some {b : Byte} {c : Cmd} (h : cmdOfCode b = some c) : b = cmdCode c := by
  have h' := List.find?_some h
  exact (by simpa using h' : cmdCode c = b).symm

theorem rspOfCode_some {b : Byte} {c : Cmd} (h : rspOfCode b = some c) : b = rspCode c := by
  have h' := List.find?_some h
  exact (by simpa using h' : rspCode c = b).symm

theorem exists_cmdCode_of_le (b : Byte) (h : b.toNat ≤ 8) : ∃ c, b = cmdCode c := by
  have : ∀ b : Byte, b.toNat ≤ 8 → (cmdOfCode b).isSome = true := by decide
  obtain ⟨c, hc⟩ := Option.isSome_iff_exists.mp (this b h)
  exact ⟨c, cmdOfCode_some hc⟩

theorem exists_rspCode_of_ge (b : Byte) (h : 247 ≤ b.toNat) : ∃ c, b = rspCode c := by
  have : ∀ b : Byte, 247 ≤ b.toNat → (rspOfCode b).isSome = true := by decide
  obtain ⟨c, hc⟩ := Option.isSome_iff_exists.mp (this b h)
  exact ⟨c, rspOfCode_some hc⟩

end Sys2Proof
end

