-- ==== Sys2Proof/Laws/Ops.lean ====
section
/-! SUPPORT. One lemma per shared operation: everything it can do. -/

namespace Sys2Proof.Machine

/-- The operand check says which error wins, or that all three operands are in range. -/
theorem formatCheck_cases (cmd addr data : Nat) :
    (8 < cmd ∧ formatCheck cmd addr data = some (.format .cmd cmd)) ∨
    (cmd ≤ 8 ∧ 255 < addr ∧ formatCheck cmd addr data = some (.format .addr addr)) ∨
    (cmd ≤ 8 ∧ addr ≤ 255 ∧ 255 < data ∧ formatCheck cmd addr data = some (.format .data data)) ∨
    (cmd ≤ 8 ∧ addr ≤ 255 ∧ data ≤ 255 ∧ formatCheck cmd addr data = none) := by
  simp only [formatCheck, Config.maxField, isCommandCode_iff]
  by_cases hc : cmd ≤ 8
  · by_cases ha : 255 < addr
    · exact .inr (.inl ⟨hc, ha, by simp [hc, ha]⟩)
    · by_cases hd : 255 < data
      · exact .inr (.inr (.inl ⟨hc, by omega, hd, by simp [hc, ha, hd]⟩))
      · exact .inr (.inr (.inr ⟨hc, by omega, by omega, by simp [hc, ha, hd]⟩))
  · exact .inl ⟨by omega, by simp [hc]⟩

theorem byteOf_toNat {v : Nat} (h : v ≤ 255) : (byteOf v).toNat = v := by
  rw [byteOf, BitVec.toNat_ofNat]
  omega

/-- ENCODE on operands in range. -/
theorem encodeOp_inRange {cmd addr data : Nat} (hc : cmd ≤ 8) (ha : addr ≤ 255) (hd : data ≤ 255) :
    encodeOp cmd addr data = .ok ⟨byteOf cmd, byteOf addr, byteOf data,
      checksum (byteOf cmd) (byteOf addr) (byteOf data)⟩ := by
  obtain ⟨h, -⟩ | ⟨-, h, -⟩ | ⟨-, -, h, -⟩ | ⟨-, -, -, h⟩ := formatCheck_cases cmd addr data
  · omega
  · omega
  · omega
  · simp only [encodeOp, h]

/-- ENCODE's error is the failed check's. -/
theorem encodeOp_error {cmd addr data : Nat} {e : CodecError} (h : formatCheck cmd addr data = some e) :
    encodeOp cmd addr data = .error e := by
  simp only [encodeOp, h]

/-- DECODE of four bytes. -/
theorem decodeOp_four (b0 b1 b2 b3 : Byte) :
    decodeOp [b0, b1, b2, b3] =
      if b0.toNat < 247 then .error (.protocol (.unknownCode b0))
      else if checksum b0 b1 b2 ≠ b3 then .error (.protocol (.checksum b3 (checksum b0 b1 b2)))
      else .ok ⟨b0, b1, b2, b3⟩ := by
  have h : (¬ isResponseCode b0 = true) ↔ b0.toNat < 247 := by
    rw [isResponseCode_iff]
    omega
  simp only [decodeOp, h]

/-- DECODE of any other length. -/
theorem decodeOp_length {buf : List Byte} (h : buf.length ≠ 4) :
    decodeOp buf = .error (.protocol (.length buf.length)) := by
  unfold decodeOp
  split
  · exact absurd rfl h
  · rfl

theorem runEncode_ok {cmd addr data : Nat} {f : RequestFrame} (h : encodeOp cmd addr data = .ok f) (s : State) :
    runEncode cmd addr data s = .next (deliver (.okFrame f) s) := by
  simp only [runEncode, h, finish]

theorem runEncode_error {cmd addr data : Nat} {e : CodecError} (h : encodeOp cmd addr data = .error e) (s : State) :
    runEncode cmd addr data s = .next (deliver (.err e) s) := by
  simp only [runEncode, h, raiseError, finish]

theorem runDecode_ok {buf : List Byte} {rf : ResponseFrame} (h : decodeOp buf = .ok rf) (s : State) :
    runDecode buf s = .next (deliver (.okResponse rf) s) := by
  simp only [runDecode, h, finish]

theorem runDecode_error {buf : List Byte} {e : CodecError} (h : decodeOp buf = .error e) (s : State) :
    runDecode buf s = .next (deliver (.err e) s) := by
  simp only [runDecode, h, raiseError, finish]

/-- Issuing ENCODE delivers one outcome, a frame or a FormatError, the same in every state. -/
theorem runEncode_delivers (cmd addr data : Nat) :
    (∃ f, encodeOp cmd addr data = .ok f ∧ ∀ s, runEncode cmd addr data s = .next (deliver (.okFrame f) s)) ∨
    (∃ e, encodeOp cmd addr data = .error e ∧ ∀ s, runEncode cmd addr data s = .next (deliver (.err e) s)) := by
  cases h : encodeOp cmd addr data with
  | ok f => exact .inl ⟨f, rfl, runEncode_ok h⟩
  | error e => exact .inr ⟨e, rfl, runEncode_error h⟩

/-- Issuing DECODE delivers one outcome, a response or a ProtocolError, the same in every state. -/
theorem runDecode_delivers (buf : List Byte) :
    (∃ rf, decodeOp buf = .ok rf ∧ ∀ s, runDecode buf s = .next (deliver (.okResponse rf) s)) ∨
    (∃ e, decodeOp buf = .error e ∧ ∀ s, runDecode buf s = .next (deliver (.err e) s)) := by
  cases h : decodeOp buf with
  | ok rf => exact .inl ⟨rf, rfl, runDecode_ok h⟩
  | error e => exact .inr ⟨e, rfl, runDecode_error h⟩

end Sys2Proof.Machine
end

