-- ==== Sys2Proof/Laws/PerInstr.lean ====
section
/-! SUPPORT. Statements made per instruction. FrameLength: the bytes of a row are exactly four (30_encoding R45, R58). -/

namespace Sys2Proof.Laws.FrameLength

/-- The bytes the encoder gives an instruction, if any, are exactly FRAME_LEN many. -/
def Statement (i : Instr) : Prop := ∀ bytes, encodeInstr i = some bytes → bytes.length = Config.frameLen

theorem encode (cmd addr data : Nat) : Statement (.encode cmd addr data) := by
  intro bytes h
  cases h

theorem decode (buf : List Byte) : Statement (.decode buf) := by
  intro bytes h
  cases h

theorem reqNoop (addr data : Nat) : Statement (.reqNoop addr data) := by
  intro bytes h
  cases h
  rfl

theorem reqSetup (addr data : Nat) : Statement (.reqSetup addr data) := by
  intro bytes h
  cases h
  rfl

theorem reqGetPort (addr data : Nat) : Statement (.reqGetPort addr data) := by
  intro bytes h
  cases h
  rfl

theorem reqSetPort (addr data : Nat) : Statement (.reqSetPort addr data) := by
  intro bytes h
  cases h
  rfl

theorem reqGetOption (addr data : Nat) : Statement (.reqGetOption addr data) := by
  intro bytes h
  cases h
  rfl

theorem reqSetOption (addr data : Nat) : Statement (.reqSetOption addr data) := by
  intro bytes h
  cases h
  rfl

theorem reqSetSingle (addr data : Nat) : Statement (.reqSetSingle addr data) := by
  intro bytes h
  cases h
  rfl

theorem reqDelSingle (addr data : Nat) : Statement (.reqDelSingle addr data) := by
  intro bytes h
  cases h
  rfl

theorem reqToggle (addr data : Nat) : Statement (.reqToggle addr data) := by
  intro bytes h
  cases h
  rfl

theorem rspNoop (b1 b2 b3 : Byte) : Statement (.rspNoop b1 b2 b3) := by
  intro bytes h
  cases h
  rfl

theorem rspSetup (b1 b2 b3 : Byte) : Statement (.rspSetup b1 b2 b3) := by
  intro bytes h
  cases h
  rfl

theorem rspGetPort (b1 b2 b3 : Byte) : Statement (.rspGetPort b1 b2 b3) := by
  intro bytes h
  cases h
  rfl

theorem rspSetPort (b1 b2 b3 : Byte) : Statement (.rspSetPort b1 b2 b3) := by
  intro bytes h
  cases h
  rfl

theorem rspGetOption (b1 b2 b3 : Byte) : Statement (.rspGetOption b1 b2 b3) := by
  intro bytes h
  cases h
  rfl

theorem rspSetOption (b1 b2 b3 : Byte) : Statement (.rspSetOption b1 b2 b3) := by
  intro bytes h
  cases h
  rfl

theorem rspSetSingle (b1 b2 b3 : Byte) : Statement (.rspSetSingle b1 b2 b3) := by
  intro bytes h
  cases h
  rfl

theorem rspDelSingle (b1 b2 b3 : Byte) : Statement (.rspDelSingle b1 b2 b3) := by
  intro bytes h
  cases h
  rfl

theorem rspToggle (b1 b2 b3 : Byte) : Statement (.rspToggle b1 b2 b3) := by
  intro bytes h
  cases h
  rfl

end Sys2Proof.Laws.FrameLength
end

