-- ==== Sys2Proof/Laws/PseudoOps.lean ====
section
/-! SUPPORT. The small facts of the host's pseudo-operations. -/

namespace Sys2Proof.Machine

/-- A single-port mask is the power of two of its port. -/
theorem portMask_toNat (port : Fin 8) : (portMask port).toNat = 2 ^ port.val := by
  revert port
  decide

/-- The command code of a name passes ENCODE's first check. -/
theorem cmdCode_toNat_le (c : Cmd) : (cmdCode c).toNat ≤ 8 := by
  cases c <;> decide

/-- A single-port exchange sends SETSINGLE or DELSINGLE by its flag, so every exchange is one named ENCODE. -/
theorem encodeRequest_named (x : Exchange) : ∃ c a d, x.encodeRequest = encodeNamed c a d := by
  rcases x with _ | _ | ⟨_, _, _ | _⟩ | _ | _ <;> exact ⟨_, _, _, rfl⟩

end Sys2Proof.Machine
end

