-- ==== Sys2Proof/Tests/Slice0.lean ====
section
/-! SUPPORT. The model's own tests. Every expected value is a vector of 95_test_vectors.md (E<n>, V<n>), an example of the rule named,
or a frame written out from the tables R46 to R50. Then one witness for each statement that has hypotheses. -/

namespace Sys2Proof.Tests

open Sys2Proof Sys2Proof.Machine

/-- The outcomes the host has received when one operation has run from reset. -/
def received (i : Instr) : Option (List OpOutcome) :=
  match exec i State.reset with
  | .next t => some t.outcomes
  | .fault _ => none
  | .refused _ => none

/-- The row that four bytes decode to. -/
def rowOf (bytes : List Byte) : Option Instr :=
  match decodeFrame bytes with
  | .ok i => some i
  | .error _ => none

/-- The name by which a byte list is rejected. -/
def rejection (bytes : List Byte) : Option FrameReject :=
  match decodeFrame bytes with
  | .ok _ => none
  | .error r => some r

/-! ## WellFormed: an ill-formed term for each check -/

theorem test_wf_encode_cmd : (Instr.encode 9 1 0).wf = false := by decide

theorem test_wf_encode_fields : (Instr.encode 8 256 0).wf = false ∧ (Instr.encode 8 255 256).wf = false := by decide

theorem test_wf_decode_length : (Instr.decode [0xFD, 0x00, 0x01]).wf = false := by decide

theorem test_wf_decode_code : (Instr.decode [0xF6, 0x00, 0x00, 0xF6]).wf = false := by decide

theorem test_wf_reqNoop : (Instr.reqNoop 256 0).wf = false ∧ (Instr.reqNoop 0 256).wf = false := by decide

theorem test_wf_reqSetup : (Instr.reqSetup 256 0).wf = false ∧ (Instr.reqSetup 0 256).wf = false := by decide

theorem test_wf_reqGetPort : (Instr.reqGetPort 256 0).wf = false ∧ (Instr.reqGetPort 0 256).wf = false := by decide

theorem test_wf_reqSetPort : (Instr.reqSetPort 256 0).wf = false ∧ (Instr.reqSetPort 0 256).wf = false := by decide

theorem test_wf_reqGetOption : (Instr.reqGetOption 256 0).wf = false ∧ (Instr.reqGetOption 0 256).wf = false := by decide

theorem test_wf_reqSetOption : (Instr.reqSetOption 256 0).wf = false ∧ (Instr.reqSetOption 0 256).wf = false := by decide

theorem test_wf_reqSetSingle : (Instr.reqSetSingle 256 0).wf = false ∧ (Instr.reqSetSingle 0 256).wf = false := by decide

theorem test_wf_reqDelSingle : (Instr.reqDelSingle 256 0).wf = false ∧ (Instr.reqDelSingle 0 256).wf = false := by decide

theorem test_wf_reqToggle : (Instr.reqToggle 256 0).wf = false ∧ (Instr.reqToggle 0 256).wf = false := by decide

theorem test_wf_accepts_boundaries : (Instr.encode 8 255 255).wf = true ∧ (Instr.reqToggle 255 255).wf = true ∧
    (Instr.decode [0xF7, 0xFF, 0xFF, 0xF7]).wf = true := by decide

/-! ## Decoding: each row's bytes written out from its rule -/

theorem test_decode_reqNoop : rowOf [0x00, 0x01, 0x00, 0x01] = some (.reqNoop 1 0) := by decide

theorem test_decode_reqSetup : rowOf [0x01, 0x01, 0x00, 0x00] = some (.reqSetup 1 0) := by decide

theorem test_decode_reqGetPort : rowOf [0x02, 0x01, 0x00, 0x03] = some (.reqGetPort 1 0) := by decide

theorem test_decode_reqSetPort : rowOf [0x03, 0x01, 0x0F, 0x0D] = some (.reqSetPort 1 0x0F) := by decide

theorem test_decode_reqGetOption : rowOf [0x04, 0x01, 0x00, 0x05] = some (.reqGetOption 1 0) := by decide

theorem test_decode_reqSetOption : rowOf [0x05, 0x01, 0x00, 0x04] = some (.reqSetOption 1 0) := by decide

theorem test_decode_reqSetSingle : rowOf [0x06, 0x03, 0x20, 0x25] = some (.reqSetSingle 3 0x20) := by decide

theorem test_decode_reqDelSingle : rowOf [0x07, 0x03, 0x20, 0x24] = some (.reqDelSingle 3 0x20) := by decide

theorem test_decode_reqToggle : rowOf [0x08, 0x04, 0x81, 0x8D] = some (.reqToggle 4 0x81) := by decide

theorem test_decode_rspNoop : rowOf [0xFF, 0x00, 0x00, 0xFF] = some (.rspNoop 0x00 0x00 0xFF) := by decide

theorem test_decode_rspSetup : rowOf [0xFE, 0x05, 0x00, 0xFB] = some (.rspSetup 0x05 0x00 0xFB) := by decide

theorem test_decode_rspGetPort : rowOf [0xFD, 0x00, 0x01, 0xFC] = some (.rspGetPort 0x00 0x01 0xFC) := by decide

theorem test_decode_rspSetPort : rowOf [0xFC, 0x01, 0x0F, 0xF2] = some (.rspSetPort 0x01 0x0F 0xF2) := by decide

theorem test_decode_rspGetOption : rowOf [0xFB, 0x01, 0x00, 0xFA] = some (.rspGetOption 0x01 0x00 0xFA) := by decide

theorem test_decode_rspSetOption : rowOf [0xFA, 0x01, 0x00, 0xFB] = some (.rspSetOption 0x01 0x00 0xFB) := by decide

theorem test_decode_rspSetSingle : rowOf [0xF9, 0x03, 0x21, 0xDB] = some (.rspSetSingle 0x03 0x21 0xDB) := by decide

theorem test_decode_rspDelSingle : rowOf [0xF8, 0x03, 0x00, 0xFB] = some (.rspDelSingle 0x03 0x00 0xFB) := by decide

theorem test_decode_rspToggle : rowOf [0xF7, 0x04, 0x81, 0x72] = some (.rspToggle 0x04 0x81 0x72) := by decide

/-- The code byte written bit by bit from R47's binary column. -/
theorem test_decode_bits_toggle : rowOf [0b00001000, 0b00000100, 0b10000001, 0b10001101] = some (.reqToggle 4 0x81) := by decide

/-- The code byte written bit by bit from R48's binary column. -/
theorem test_decode_bits_rspToggle : rowOf [0b11110111, 0b00000100, 0b10000001, 0b01110010] =
    some (.rspToggle 0x04 0x81 0x72) := by decide

theorem test_decode_rejects_unassigned : rejection [0x09, 0x00, 0x00, 0x09] = some (.unassignedCode 0x09) ∧
    rejection [0xF6, 0x00, 0x00, 0xF6] = some (.unassignedCode 0xF6) := by decide

theorem test_decode_rejects_length : rejection [] = some (.wrongLength 0) ∧
    rejection [0xFD, 0x00, 0x01] = some (.wrongLength 3) ∧
    rejection [0xFD, 0x00, 0x01, 0xFC, 0x00] = some (.wrongLength 5) := by decide

/-- R8, R32: `FD 00 01 FC` as a 32-bit pattern has byte 0 in bits 31:24. -/
theorem test_packed_view : packFrame 0xFD 0x00 0x01 0xFC = 0xFD0001FC#32 ∧
    unpackFrame 0x02010003#32 = [0x02, 0x01, 0x00, 0x03] := by decide

theorem test_table_word_length : decodeTableWord 40 0x0201000300 = none := by decide

/-! ## Meanings -/

/-- E9 and E14. -/
theorem test_encode_ok : received (.encode 8 4 0x81) = some [.okFrame ⟨0x08, 0x04, 0x81, 0x8D⟩] ∧
    received (.encode 8 255 255) = some [.okFrame ⟨0x08, 0xFF, 0xFF, 0x08⟩] := by decide

/-- E24, E28, E29 and E27. -/
theorem test_encode_errors : received (.encode 256 1 0) = some [.err (.format .cmd 256)] ∧
    received (.encode 9 256 300) = some [.err (.format .cmd 9)] ∧
    received (.encode 8 256 300) = some [.err (.format .addr 256)] ∧
    received (.encode 8 1 256) = some [.err (.format .data 256)] := by decide

/-- V29 and V28. -/
theorem test_decode_ok : received (.decode [0xFD, 0x01, 0x00, 0xFC]) = some [.okResponse ⟨0xFD, 0x01, 0x00, 0xFC⟩] ∧
    received (.decode [0xFF, 0xFF, 0xFF, 0xFF]) = some [.okResponse ⟨0xFF, 0xFF, 0xFF, 0xFF⟩] := by decide

/-- V10, V14, V25 and V21. -/
theorem test_decode_errors : received (.decode []) = some [.err (.protocol (.length 0))] ∧
    received (.decode [0xFD, 0x00, 0x01, 0xFC, 0x00]) = some [.err (.protocol (.length 5))] ∧
    received (.decode [0x02, 0x00, 0x00, 0x00]) = some [.err (.protocol (.unknownCode 0x02))] ∧
    received (.decode [0xF9, 0x03, 0x21, 0xDA]) = some [.err (.protocol (.checksum 0xDA 0xDB))] := by decide

/-- E1, and R72's exceptions. -/
theorem test_reqNoop : received (.reqNoop 1 0) = some [.okFrame ⟨0x00, 0x01, 0x00, 0x01⟩] ∧
    received (.reqNoop 256 300) = some [.err (.format .addr 256)] ∧
    received (.reqNoop 1 300) = some [.err (.format .data 300)] := by decide

/-- E2, and R73's exceptions. -/
theorem test_reqSetup : received (.reqSetup 1 0) = some [.okFrame ⟨0x01, 0x01, 0x00, 0x00⟩] ∧
    received (.reqSetup 256 300) = some [.err (.format .addr 256)] ∧
    received (.reqSetup 1 300) = some [.err (.format .data 300)] := by decide

/-- E3, and R74's exceptions. -/
theorem test_reqGetPort : received (.reqGetPort 1 0) = some [.okFrame ⟨0x02, 0x01, 0x00, 0x03⟩] ∧
    received (.reqGetPort 256 300) = some [.err (.format .addr 256)] ∧
    received (.reqGetPort 1 300) = some [.err (.format .data 300)] := by decide

/-- E4, and R75's exceptions. -/
theorem test_reqSetPort : received (.reqSetPort 1 0x0F) = some [.okFrame ⟨0x03, 0x01, 0x0F, 0x0D⟩] ∧
    received (.reqSetPort 256 300) = some [.err (.format .addr 256)] ∧
    received (.reqSetPort 1 300) = some [.err (.format .data 300)] := by decide

/-- E5, and R76's exceptions. -/
theorem test_reqGetOption : received (.reqGetOption 1 0) = some [.okFrame ⟨0x04, 0x01, 0x00, 0x05⟩] ∧
    received (.reqGetOption 256 300) = some [.err (.format .addr 256)] ∧
    received (.reqGetOption 1 300) = some [.err (.format .data 300)] := by decide

/-- E6, and R77's exceptions. -/
theorem test_reqSetOption : received (.reqSetOption 1 0) = some [.okFrame ⟨0x05, 0x01, 0x00, 0x04⟩] ∧
    received (.reqSetOption 256 300) = some [.err (.format .addr 256)] ∧
    received (.reqSetOption 1 300) = some [.err (.format .data 300)] := by decide

/-- E7, and R78's exceptions. -/
theorem test_reqSetSingle : received (.reqSetSingle 3 0x20) = some [.okFrame ⟨0x06, 0x03, 0x20, 0x25⟩] ∧
    received (.reqSetSingle 256 300) = some [.err (.format .addr 256)] ∧
    received (.reqSetSingle 1 300) = some [.err (.format .data 300)] := by decide

/-- E8, and R79's exceptions. -/
theorem test_reqDelSingle : received (.reqDelSingle 3 0x20) = some [.okFrame ⟨0x07, 0x03, 0x20, 0x24⟩] ∧
    received (.reqDelSingle 256 300) = some [.err (.format .addr 256)] ∧
    received (.reqDelSingle 1 300) = some [.err (.format .data 300)] := by decide

/-- E9, and R80's exceptions. -/
theorem test_reqToggle : received (.reqToggle 4 0x81) = some [.okFrame ⟨0x08, 0x04, 0x81, 0x8D⟩] ∧
    received (.reqToggle 256 300) = some [.err (.format .addr 256)] ∧
    received (.reqToggle 1 300) = some [.err (.format .data 300)] := by decide

/-- V1, and the same frame with bit 0 of its checksum flipped (R94, R86). -/
theorem test_rspNoop : received (.rspNoop 0x00 0x00 0xFF) = some [.okResponse ⟨0xFF, 0x00, 0x00, 0xFF⟩] ∧
    received (.rspNoop 0x00 0x00 0xFE) = some [.err (.protocol (.checksum 0xFE 0xFF))] := by decide

/-- V2, and the same frame with bit 0 of its checksum flipped (R95, R86). -/
theorem test_rspSetup : received (.rspSetup 0x05 0x00 0xFB) = some [.okResponse ⟨0xFE, 0x05, 0x00, 0xFB⟩] ∧
    received (.rspSetup 0x05 0x00 0xFA) = some [.err (.protocol (.checksum 0xFA 0xFB))] := by decide

/-- V3, and the same frame with bit 0 of its checksum flipped (R96, R86). -/
theorem test_rspGetPort : received (.rspGetPort 0x00 0x01 0xFC) = some [.okResponse ⟨0xFD, 0x00, 0x01, 0xFC⟩] ∧
    received (.rspGetPort 0x00 0x01 0xFD) = some [.err (.protocol (.checksum 0xFD 0xFC))] := by decide

/-- V4, and the same frame with bit 0 of its checksum flipped (R97, R86). -/
theorem test_rspSetPort : received (.rspSetPort 0x01 0x0F 0xF2) = some [.okResponse ⟨0xFC, 0x01, 0x0F, 0xF2⟩] ∧
    received (.rspSetPort 0x01 0x0F 0xF3) = some [.err (.protocol (.checksum 0xF3 0xF2))] := by decide

/-- V5, and the same frame with bit 0 of its checksum flipped (R98, R86). -/
theorem test_rspGetOption : received (.rspGetOption 0x01 0x00 0xFA) = some [.okResponse ⟨0xFB, 0x01, 0x00, 0xFA⟩] ∧
    received (.rspGetOption 0x01 0x00 0xFB) = some [.err (.protocol (.checksum 0xFB 0xFA))] := by decide

/-- V6, and the same frame with bit 0 of its checksum flipped (R99, R86). -/
theorem test_rspSetOption : received (.rspSetOption 0x01 0x00 0xFB) = some [.okResponse ⟨0xFA, 0x01, 0x00, 0xFB⟩] ∧
    received (.rspSetOption 0x01 0x00 0xFA) = some [.err (.protocol (.checksum 0xFA 0xFB))] := by decide

/-- V7, and the same frame with bit 0 of its checksum flipped (R100, R86). -/
theorem test_rspSetSingle : received (.rspSetSingle 0x03 0x21 0xDB) = some [.okResponse ⟨0xF9, 0x03, 0x21, 0xDB⟩] ∧
    received (.rspSetSingle 0x03 0x21 0xDA) = some [.err (.protocol (.checksum 0xDA 0xDB))] := by decide

/-- V8, and the same frame with bit 0 of its checksum flipped (R101, R86). -/
theorem test_rspDelSingle : received (.rspDelSingle 0x03 0x00 0xFB) = some [.okResponse ⟨0xF8, 0x03, 0x00, 0xFB⟩] ∧
    received (.rspDelSingle 0x03 0x00 0xFA) = some [.err (.protocol (.checksum 0xFA 0xFB))] := by decide

/-- V9, and the same frame with bit 0 of its checksum flipped (R102, R86). -/
theorem test_rspToggle : received (.rspToggle 0x04 0x81 0x72) = some [.okResponse ⟨0xF7, 0x04, 0x81, 0x72⟩] ∧
    received (.rspToggle 0x04 0x81 0x73) = some [.err (.protocol (.checksum 0x73 0x72))] := by decide

/-- P1's first two steps deliver their outcomes in order, one step each (the second from the state the first leaves). -/
theorem test_step_keeps_order :
    step ⟨[.decode [0xFD, 0x00, 0x01, 0xFC]], [.okFrame ⟨0x02, 0x01, 0x00, 0x03⟩]⟩ =
      .next ⟨[], [.okFrame ⟨0x02, 0x01, 0x00, 0x03⟩, .okResponse ⟨0xFD, 0x00, 0x01, 0xFC⟩]⟩ := rfl

/-- R73: the row's match alone issues REQ.SETUP 0, 0, and its checksum is computed (log 6). -/
theorem test_step_from_table_word : step (State.reset.withFetchWord 32 0x01000000) =
    .next ⟨[], [.okFrame ⟨0x01, 0x00, 0x00, 0x01⟩]⟩ := rfl

/-- R54: an unassigned code issues nothing (log 5). -/
theorem test_step_from_unassigned_word : step (State.withFetchWord ⟨[.encode 2 1 0], []⟩ 32 0x09000009) =
    .refused .noOperation := rfl

/-- R105. -/
theorem test_status : status (.err (.protocol (.checksum 0xDA 0xDB))) = 6 ∧ status (.err (.format .data 300)) = 3 := by decide

/-- R60: the single-port mask of port 5 is 0x20 (P2). -/
theorem test_port_mask : portMask 5 = 0x20 ∧
    (HostOp.request (.setSinglePort 3 5 true)).expand = .encode 6 3 0x20 := by decide

/-- P1 and W8: the reply to `getPorts(1)` is decoded, and its code 0xFD is the expected one. -/
theorem test_reply : received (HostOp.reply (.getPorts 1) [0xFD, 0x00, 0x01, 0xFC]).expand =
      some [.okResponse ⟨0xFD, 0x00, 0x01, 0xFC⟩] ∧
    (HostOp.reply (.getPorts 1) [0xFD, 0x00, 0x01, 0xFC]).expectedCode = some 0xFD := by decide

/-! ## Witnesses: values that meet the hypotheses of each statement, at the ends of their ranges -/

theorem witness_EveryOperationDeliversOneOutcome :
    exec (.encode 2 1 0) State.reset = .next ⟨[], [.okFrame ⟨0x02, 0x01, 0x00, 0x03⟩]⟩ := rfl

theorem witness_SequenceDeliversOutcomesInOrder :
    ([.encode 9 1 0, .decode []] : List Instr)[1]? = some (.decode []) := rfl

theorem witness_StepRunsTheDecodedWord : decodeTableWord 32 0x02010003 = some (.reqGetPort 1 0) := by decide

theorem witness_ResetHoldsNothing : exec (.decode []) ⟨[.decode []], []⟩ =
    .next ⟨[.decode []], [] ++ [.err (.protocol (.length 0))]⟩ := rfl

theorem witness_StepKeepsSoundness : State.Sound ⟨[.decode []], [.err (.format .addr 256)]⟩ ∧
    step ⟨[.decode []], [.err (.format .addr 256)]⟩ =
      .next ⟨[], [.err (.format .addr 256), .err (.protocol (.length 0))]⟩ :=
  ⟨by simp [State.Sound, OpOutcome.Sound], rfl⟩

theorem witness_EncodeReturnsTheFrame : 8 ≤ 8 ∧ 255 ≤ 255 := by decide

theorem witness_EncodeErrorsInOrder : 8 < 9 ∧ (8 ≤ 8 ∧ 255 < 256) ∧ (0 ≤ 8 ∧ 255 ≤ 255 ∧ 255 < 256) := by decide

theorem witness_EncodeLaws : Delivers (.encode 8 255 255) (.okFrame ⟨0x08, 0xFF, 0xFF, 0x08⟩) := fun _ => rfl

theorem witness_EncodeAcceptsFieldBoundaries : 8 ≤ 8 ∧ (255 = 0 ∨ 255 = 255) ∧ (0 = 0 ∨ 0 = 255) := by decide

theorem witness_EncodeCoincidingOperands : (1 ≤ 8 ∧ 1 ≤ 255 ∧ 0 ≤ 255 ∧ 1 ^^^ 1 ^^^ 0 = 0) ∧
    (0x08 : Byte) ∈ cmdTable ∧ (0xF7 : Byte) ∈ rspTable := by decide

theorem witness_RequestRowsMeanTheirRules : (255 ≤ 255 ∧ 255 = 255) ∧ 255 < 256 ∧ (255 ≤ 255 ∧ 255 < 256) := by decide

theorem witness_DecodeReturnsTheFourBytes : 247 ≤ (0xF7 : Byte).toNat ∧
    (0xF7 : Byte) ^^^ 0xFF ^^^ 0xFF = 0xF7 := by decide

theorem witness_DecodeErrorsInOrder : ([] : List Byte).length ≠ 4 ∧ (0xF6 : Byte).toNat < 247 ∧
    (247 ≤ (0xF7 : Byte).toNat ∧ (0xF7 : Byte) ^^^ 0x00 ^^^ 0x00 ≠ 0xF6) := by decide

theorem witness_DecodeAcceptsExactlyTheFrames : 247 ≤ (0xFF : Byte).toNat ∧
    (0xFF : Byte) ^^^ 0xFF ^^^ 0x00 ^^^ 0x00 = 0 := by decide

theorem witness_ResponseRowsMeanTheirRules : (0x72 : Byte) = 0xF7 ^^^ 0x04 ^^^ 0x81 ∧
    (0x73 : Byte) ≠ 0xF7 ^^^ 0x04 ^^^ 0x81 := by decide

theorem witness_RequestFrameIsNeverAccepted : 8 ≤ 8 ∧ 0 ≤ 255 ∧ 255 ≤ 255 := by decide

theorem witness_EchoedReplyChecksumIsComplement : 0 ≤ 8 ∧ 255 ≤ 255 ∧ 0 ≤ 255 := by decide

theorem witness_ChecksumDetectsExactlyNonzeroErrors :
    247 ≤ (0xFD : Byte).toNat ∧ (0xFD : Byte) ^^^ 0x00 ^^^ 0x01 = 0xFC ∧ 247 ≤ ((0xFD : Byte) ^^^ 0x01).toNat ∧
      ((0x01 : Byte) ^^^ 0x00 ^^^ 0x00 ^^^ 0x01 = 0) ∧ (0x01 : Byte) ^^^ 0x00 ^^^ 0x00 ^^^ 0x00 ≠ 0 ∧
      ((0x01 : Byte).getLsbD 0 ^^ (0x00 : Byte).getLsbD 0 ^^ (0x00 : Byte).getLsbD 0 ^^ (0x00 : Byte).getLsbD 0) = true := by
  decide

theorem witness_MisalignedWindowIsDecodedAsGiven :
    3 + 4 ≤ ([0xFF, 0x00, 0x00, 0xFF, 0xFF, 0x00, 0x00] : List Byte).length ∧ (0x00 : Byte).toNat < 247 ∧
      (247 ≤ (0xFF : Byte).toNat ∧ (0xFF : Byte) ^^^ 0x00 ^^^ 0x00 ≠ 0x00) ∧
      (0xFF : Byte) ^^^ 0xFF ^^^ 0x00 = 0x00 := by decide

theorem witness_CodeBytesSplitInThreeClasses : (0x08 : Byte).toNat ≤ 8 ∧
    (9 ≤ (0x09 : Byte).toNat ∧ (0x09 : Byte).toNat ≤ 246) ∧ (9 ≤ (0xF6 : Byte).toNat ∧ (0xF6 : Byte).toNat ≤ 246) ∧
    247 ≤ (0xF7 : Byte).toNat ∧ 255 < 256 := by decide

theorem witness_StatusCodesFollowTheTable : Delivers (.encode 9 1 0) (.err (.format .cmd 9)) := fun _ => rfl

theorem witness_EncodedRowsDecodeToThemselves : (Instr.reqToggle 255 255).wf = true ∧
    (∀ cmd addr data, Instr.reqToggle 255 255 ≠ .encode cmd addr data) ∧ (∀ buf, Instr.reqToggle 255 255 ≠ .decode buf) :=
  ⟨by decide, nofun, nofun⟩

theorem witness_DecodedBytesEncodeBack : rowOf [0x01, 0x00, 0x00, 0x00] = some (.reqSetup 0 0) ∧
    247 ≤ (0xF7 : Byte).toNat ∧ (0x08 : Byte).toNat ≤ 8 := by decide

theorem witness_CodeByteSelectsTheTableRow : rowOf (unpackFrame 0xF7048172#32) = some (.rspToggle 0x04 0x81 0x72) ∧
    (9 ≤ (0xF6 : Byte).toNat ∧ (0xF6 : Byte).toNat ≤ 246) ∧ ([0xFD] : List Byte).length ≠ 4 := by decide

/-- Addresses at both ends of the range and just above it, and each exchange as a member of the list. -/
theorem witness_PseudoOperationsEncodeTheirFrames : 0 ≤ 255 ∧ 255 ≤ 255 ∧ 255 < 256 ∧
    ∀ x ∈ [Exchange.togglePort 256 7, .togglePorts 256 0xFF, .setSinglePort 256 7 false, .setPorts 256 0xFF, .getPorts 256],
      x ∈ [Exchange.getPorts 256, .setPorts 256 0xFF, .setSinglePort 256 7 false, .togglePorts 256 0xFF, .togglePort 256 7] := by
  decide

end Sys2Proof.Tests
end

section
/-! PROOFS. Every operation is one ENCODE or one DECODE, so it delivers one outcome (00_scope R10, 10_state R39,
70_reset_and_hazards R131). -/

namespace Sys2Proof.Machine

/-- Every instruction is one ENCODE or one DECODE, with operands that no state changes (R53, R72 to R80, R94 to R102). -/
theorem exec_eq_runEncode_or_runDecode (i : Instr) :
    (∃ cmd addr data, ∀ s, exec i s = runEncode cmd addr data s) ∨ (∃ buf, ∀ s, exec i s = runDecode buf s) := by
  cases i with
  | encode _ addr data
  | reqNoop addr data | reqSetup addr data | reqGetPort addr data | reqSetPort addr data | reqGetOption addr data
  | reqSetOption addr data | reqSetSingle addr data | reqDelSingle addr data | reqToggle addr data =>
    exact .inl ⟨_, addr, data, fun _ => rfl⟩
  | decode _
  | rspNoop _ _ _ | rspSetup _ _ _ | rspGetPort _ _ _ | rspSetPort _ _ _ | rspGetOption _ _ _
  | rspSetOption _ _ _ | rspSetSingle _ _ _ | rspDelSingle _ _ _ | rspToggle _ _ _ =>
    exact .inr ⟨_, fun _ => rfl⟩

/-- `Delivers` in the terms of the shared operation `deliver`. -/
theorem delivers_iff (i : Instr) (o : OpOutcome) : Delivers i o ↔ ∀ s, exec i s = .next (deliver o s) := Iff.rfl

/-- Every operation delivers an outcome: the frame or the error of its ENCODE, the response or the error of its DECODE. -/
theorem exists_delivers (i : Instr) : ∃ o, Delivers i o := by
  simp only [delivers_iff]
  obtain ⟨cmd, addr, data, hexec⟩ | ⟨buf, hexec⟩ := exec_eq_runEncode_or_runDecode i
  · simp only [hexec]
    obtain ⟨f, -, h⟩ | ⟨e, -, h⟩ := runEncode_delivers cmd addr data
    · exact ⟨_, h⟩
    · exact ⟨_, h⟩
  · simp only [hexec]
    obtain ⟨rf, -, h⟩ | ⟨e, -, h⟩ := runDecode_delivers buf
    · exact ⟨_, h⟩
    · exact ⟨_, h⟩

/-- The only next state of an operation is the one in which its outcome has been delivered. -/
theorem Delivers.next_eq {i : Instr} {o : OpOutcome} {s t : State} (hd : Delivers i o) (h : exec i s = .next t) :
    t = deliver o s := by
  rw [(delivers_iff i o).1 hd s] at h
  cases h
  rfl

/-- Settles O1: the operation's ENCODE or DECODE fixes the outcome, and its next state is that outcome's delivery. -/
theorem everyOperationDeliversOneOutcome : Obligations.EveryOperationDeliversOneOutcome := by
  intro i
  obtain ⟨o, hd⟩ := exists_delivers i
  refine ⟨o, hd, fun s t h => ?_⟩
  rw [hd.next_eq h]
  exact ⟨deliver_pending o s, deliver_outcomes o s⟩

end Sys2Proof.Machine
end

section
/-! PROOFS. One step: which operation it runs and what it can answer (10_state R16, 20_memory R41; logs 1 and 4). -/

namespace Sys2Proof.Machine

/-- Settles O4: the first operation of the sequence is the one taken. -/
theorem stepRunsTheNextOperation : Obligations.StepRunsTheNextOperation := by
  intro i rest os
  simp only [step, takeOperation_cons]

/-- Settles O6: an empty sequence gives no operation to take. -/
theorem stepWithNothingIssuedIsRefused : Obligations.StepWithNothingIssuedIsRefused := by
  intro os
  simp only [step, takeOperation_nil]

/-- A step that answers a next state has delivered the outcome of the operation issued next and taken that operation off
the sequence. -/
theorem step_eq_next {s t : State} (h : step s = .next t) :
    ∃ i rest, s.pending = i :: rest ∧ ∀ o, Delivers i o → t = deliver o { s with pending := rest } := by
  obtain ⟨_ | ⟨i, rest⟩, os⟩ := s
  · rw [stepWithNothingIssuedIsRefused os] at h
    cases h
  · rw [stepRunsTheNextOperation i rest os] at h
    exact ⟨i, rest, rfl, fun _ hd => hd.next_eq h⟩

end Sys2Proof.Machine
end

section
/-! PROOFS. Every operation delivers a sound outcome, so every step keeps soundness (10_state R28, R29, 60_exceptions R104). -/

namespace Sys2Proof.Machine

/-- ENCODE delivers a sound outcome: the failed check is the error's cause, and a frame has its checks behind it (R29, R104). -/
theorem runEncode_sound (cmd addr data : Nat) :
    ∃ o : OpOutcome, o.Sound ∧ ∀ s, runEncode cmd addr data s = .next (deliver o s) := by
  obtain ⟨hc, h⟩ | ⟨-, ha, h⟩ | ⟨-, -, hd, h⟩ | ⟨hc, ha, hd, -⟩ := formatCheck_cases cmd addr data
  · exact ⟨.err (.format .cmd cmd), hc, runEncode_error (encodeOp_error h)⟩
  · exact ⟨.err (.format .addr addr), ha, runEncode_error (encodeOp_error h)⟩
  · exact ⟨.err (.format .data data), hd, runEncode_error (encodeOp_error h)⟩
  · have hb0 : (byteOf cmd).toNat ≤ 8 := by rwa [byteOf_toNat (hc.trans (by decide))]
    exact ⟨.okFrame _, ⟨hb0, rfl⟩, runEncode_ok (encodeOp_inRange hc ha hd)⟩

/-- DECODE's result is sound, by the checks in their order: length, response code, checksum (R28, R104). -/
theorem runDecode_sound (buf : List Byte) :
    ∃ o : OpOutcome, o.Sound ∧ ∀ s, runDecode buf s = .next (deliver o s) := by
  by_cases hlen : buf.length = 4
  · obtain ⟨b0, b1, b2, b3, rfl⟩ := List.length_eq_four.mp hlen
    have hfour := decodeOp_four b0 b1 b2 b3
    by_cases hcode : b0.toNat < 247
    · rw [if_pos hcode] at hfour
      exact ⟨.err (.protocol (.unknownCode b0)), hcode, runDecode_error hfour⟩
    · rw [if_neg hcode] at hfour
      by_cases hsum : checksum b0 b1 b2 = b3
      · rw [if_neg (not_not.mpr hsum)] at hfour
        exact ⟨.okResponse ⟨b0, b1, b2, b3⟩, ⟨not_lt.mp hcode, hsum.symm⟩, runDecode_ok hfour⟩
      · rw [if_pos hsum] at hfour
        exact ⟨.err (.protocol (.checksum b3 (checksum b0 b1 b2))), Ne.symm hsum, runDecode_error hfour⟩
  · exact ⟨.err (.protocol (.length buf.length)), hlen, runDecode_error (decodeOp_length hlen)⟩

/-- Every operation delivers a sound outcome. -/
theorem exists_sound_delivers (i : Instr) : ∃ o : OpOutcome, o.Sound ∧ Delivers i o := by
  simp only [delivers_iff]
  obtain ⟨cmd, addr, data, hexec⟩ | ⟨buf, hexec⟩ := exec_eq_runEncode_or_runDecode i
  · simp only [hexec, runEncode_sound]
  · simp only [hexec, runDecode_sound]

/-- Delivering a sound outcome keeps a state sound. -/
theorem State.Sound.deliver {s : State} {o : OpOutcome} (hs : s.Sound) (ho : o.Sound) : (deliver o s).Sound := by
  intro o' hmem
  rw [deliver_outcomes, List.mem_append, List.mem_singleton] at hmem
  obtain hmem | rfl := hmem
  · exact hs o' hmem
  · exact ho

/-- Settles O9: a step delivers one more outcome, that of the operation issued next, which is sound. -/
theorem stepKeepsSoundness : Obligations.StepKeepsSoundness := by
  intro s t hs hstep
  obtain ⟨i, rest, -, ht⟩ := step_eq_next hstep
  obtain ⟨o, ho, hd⟩ := exists_sound_delivers i
  have hs' : State.Sound { s with pending := rest } := hs
  rw [ht o hd]
  exact hs'.deliver ho

end Sys2Proof.Machine
end

section
/-! PROOFS. ENCODE's errors are its operand checks' errors, and operands that are bytes fail none but the first check
(10_state R24, 92_eei_decisions D2). -/

namespace Sys2Proof.Machine

/-- An operation delivers one outcome only. -/
theorem Delivers.unique {i : Instr} {o o' : OpOutcome} (h : Delivers i o) (h' : Delivers i o') : o = o' := by
  have hnext : deliver o' State.reset = deliver o State.reset := h.next_eq ((delivers_iff i o').1 h' State.reset)
  have hout := congrArg State.outcomes hnext
  simpa using hout.symm

theorem encodeOp_eq_error_iff (cmd addr data : Nat) (e : CodecError) :
    encodeOp cmd addr data = .error e ↔ formatCheck cmd addr data = some e := by
  cases h : formatCheck cmd addr data with
  | none => simp [encodeOp, h]
  | some e' => simp [encodeOp_error h]

/-- ENCODE delivers an error exactly when an operand check fails with it. -/
theorem delivers_encode_err_iff (cmd addr data : Nat) (e : CodecError) :
    Delivers (.encode cmd addr data) (.err e) ↔ formatCheck cmd addr data = some e := by
  rw [← encodeOp_eq_error_iff]
  refine ⟨fun h => ?_, runEncode_error⟩
  obtain ⟨f, -, hrun⟩ | ⟨e', herr, hrun⟩ := runEncode_delivers cmd addr data
  · cases h.unique hrun
  · cases h.unique hrun
    exact herr

/-- Settles O16: a byte is at most 255, so the address and the data check pass. -/
theorem eightBitPortsRaiseOnlyCommandErrors : Obligations.EightBitPortsRaiseOnlyCommandErrors := by
  intro cmd addr data e
  have ha := addr.isLt
  have hd := data.isLt
  rw [delivers_encode_err_iff]
  obtain ⟨hc, h⟩ | ⟨-, h, -⟩ | ⟨-, -, h, -⟩ | ⟨hc, -, -, h⟩ := formatCheck_cases cmd addr.toNat data.toNat
  · rw [h, Option.some.injEq, eq_comm]
    exact (and_iff_right hc).symm
  · omega
  · omega
  · rw [h]
    exact ⟨nofun, fun ⟨hc', _⟩ => absurd hc (not_le.mpr hc')⟩

end Sys2Proof.Machine
end

section
/-! PROOFS. A run of the operations the host has issued delivers their outcomes in order (20_memory R41, 10_state R18,
70_reset_and_hazards R130; log 1). -/

namespace Sys2Proof.Machine

/-- A run goes on from the state its first step answers. -/
theorem run_succ_of_step {s t : State} (h : step s = .next t) (k : Nat) : core.run (k + 1) s = core.run k t := by
  have hcore : core.step s = .next t := h
  simp only [Host.Core.run, hcore]

/-- With the outcome of each operation given, as many steps as operations are issued append the outcomes one by one. -/
theorem run_issued {outcomeOf : Instr → OpOutcome} (hd : ∀ i, Delivers i (outcomeOf i)) (issued : List Instr)
    (past : List OpOutcome) :
    core.run issued.length ⟨issued, past⟩ = .next ⟨[], past ++ issued.map outcomeOf⟩ := by
  induction issued generalizing past with
  | nil => simp [Host.Core.run]
  | cons i rest ih =>
    have hstep : step ⟨i :: rest, past⟩ = .next ⟨rest, past ++ [outcomeOf i]⟩ := by
      rw [stepRunsTheNextOperation i rest past, hd i]
    rw [List.length_cons, run_succ_of_step hstep, ih, List.map_cons, ← List.append_cons]

/-- Settles O3: every operation has one outcome, the same in every state, and the run delivers that of each in turn. -/
theorem sequenceDeliversOutcomesInOrder : Obligations.SequenceDeliversOutcomesInOrder := by
  intro s
  choose outcomeOf hd using exists_delivers
  refine ⟨s.pending.map outcomeOf, List.length_map _, run_issued hd s.pending s.outcomes, fun n i hi => ?_⟩
  exact ⟨outcomeOf i, by rw [List.getElem?_map, hi, Option.map_some], hd i⟩

end Sys2Proof.Machine
end

section
/-! PROOFS. DECODE of four bytes, and of a window of four bytes that starts anywhere in a stream (20_memory R35, 41_decode R85 to R88). -/

namespace Sys2Proof.Machine

/-- Four bytes whose first is no response code deliver UNKNOWN_CODE (R85, R87). -/
theorem delivers_decode_unknownCode {b0 : Byte} (hcode : b0.toNat < 247) (b1 b2 b3 : Byte) :
    Delivers (.decode [b0, b1, b2, b3]) (.err (.protocol (.unknownCode b0))) :=
  runDecode_error (by rw [decodeOp_four, if_pos hcode])

/-- Four bytes with a response code and another checksum deliver CHECKSUM (R86, R87). -/
theorem delivers_decode_checksum {b0 b1 b2 b3 : Byte} (hcode : 247 ≤ b0.toNat) (hsum : b0 ^^^ b1 ^^^ b2 ≠ b3) :
    Delivers (.decode [b0, b1, b2, b3]) (.err (.protocol (.checksum b3 (b0 ^^^ b1 ^^^ b2)))) :=
  runDecode_error ((decodeOp_four b0 b1 b2 b3).trans ((if_neg (not_lt.mpr hcode)).trans (if_pos hsum)))

/-- Four bytes with a response code and their own checksum are delivered as received (R88). -/
theorem delivers_decode_okResponse {b0 b1 b2 b3 : Byte} (hcode : 247 ≤ b0.toNat) (hsum : b0 ^^^ b1 ^^^ b2 = b3) :
    Delivers (.decode [b0, b1, b2, b3]) (.okResponse ⟨b0, b1, b2, b3⟩) :=
  runDecode_ok ((decodeOp_four b0 b1 b2 b3).trans ((if_neg (not_lt.mpr hcode)).trans (if_neg (not_not.mpr hsum))))

/-- A window holds the stream's own bytes, counted from its offset. -/
theorem window_getElem? {n : Nat} (hn : n < 4) (offset : Nat) (stream : List Byte) :
    (window offset stream)[n]? = stream[offset + n]? := by
  rw [window, Config.frameLen, List.getElem?_take_of_lt hn, List.getElem?_drop]

theorem window_length {offset : Nat} {stream : List Byte} (h : offset + 4 ≤ stream.length) :
    (window offset stream).length = 4 := by
  rw [window, Config.frameLen, List.length_take, List.length_drop]
  omega

/-- Settles O26: a window with four bytes left is four bytes, which DECODE checks as it does any four; the window of R35's
example passes both checks. -/
theorem misalignedWindowIsDecodedAsGiven : Obligations.MisalignedWindowIsDecodedAsGiven := by
  refine ⟨fun stream offset h => ?_, delivers_decode_okResponse (by decide) (by decide)⟩
  obtain ⟨b0, b1, b2, b3, hw⟩ := List.length_eq_four.mp (window_length h)
  have hfirst : stream[offset]? = some b0 := by
    rw [← Nat.add_zero offset, ← window_getElem? (by decide), hw, List.getElem?_cons_zero]
  rw [hw]
  exact ⟨b0, b1, b2, b3, rfl, hfirst, fun hcode => delivers_decode_unknownCode hcode b1 b2 b3,
    delivers_decode_checksum, delivers_decode_okResponse⟩

end Sys2Proof.Machine
end

section
/-! PROOFS. What the decoder and the encoder of the table's words do with a frame row, by the three classes of its code byte
(30_encoding R46, R50, R54, R57). -/

namespace Sys2Proof

/-- The instructions with an encoding are the request and the response rows (R53). -/
theorem eq_request_or_response {i : Instr} (henc : ∀ cmd addr data, i ≠ .encode cmd addr data)
    (hdec : ∀ buf, i ≠ .decode buf) :
    (∃ c addr data, i = .request c addr data) ∨ (∃ c b1 b2 b3, i = .response c b1 b2 b3) := by
  cases i with
  | encode cmd addr data => exact absurd rfl (henc cmd addr data)
  | decode buf => exact absurd rfl (hdec buf)
  | reqNoop addr data => exact .inl ⟨.noop, addr, data, rfl⟩
  | reqSetup addr data => exact .inl ⟨.setup, addr, data, rfl⟩
  | reqGetPort addr data => exact .inl ⟨.getPort, addr, data, rfl⟩
  | reqSetPort addr data => exact .inl ⟨.setPort, addr, data, rfl⟩
  | reqGetOption addr data => exact .inl ⟨.getOption, addr, data, rfl⟩
  | reqSetOption addr data => exact .inl ⟨.setOption, addr, data, rfl⟩
  | reqSetSingle addr data => exact .inl ⟨.setSingle, addr, data, rfl⟩
  | reqDelSingle addr data => exact .inl ⟨.delSingle, addr, data, rfl⟩
  | reqToggle addr data => exact .inl ⟨.toggle, addr, data, rfl⟩
  | rspNoop b1 b2 b3 => exact .inr ⟨.noop, b1, b2, b3, rfl⟩
  | rspSetup b1 b2 b3 => exact .inr ⟨.setup, b1, b2, b3, rfl⟩
  | rspGetPort b1 b2 b3 => exact .inr ⟨.getPort, b1, b2, b3, rfl⟩
  | rspSetPort b1 b2 b3 => exact .inr ⟨.setPort, b1, b2, b3, rfl⟩
  | rspGetOption b1 b2 b3 => exact .inr ⟨.getOption, b1, b2, b3, rfl⟩
  | rspSetOption b1 b2 b3 => exact .inr ⟨.setOption, b1, b2, b3, rfl⟩
  | rspSetSingle b1 b2 b3 => exact .inr ⟨.setSingle, b1, b2, b3, rfl⟩
  | rspDelSingle b1 b2 b3 => exact .inr ⟨.delSingle, b1, b2, b3, rfl⟩
  | rspToggle b1 b2 b3 => exact .inr ⟨.toggle, b1, b2, b3, rfl⟩

@[simp] theorem request_wf (c : Cmd) (addr data : Nat) :
    (Instr.request c addr data).wf = true ↔ addr ≤ 255 ∧ data ≤ 255 := by
  cases c <;> simp [Instr.request, Instr.wf]

@[simp] theorem response_wf (c : Cmd) (b1 b2 b3 : Byte) : (Instr.response c b1 b2 b3).wf = true := by
  cases c <;> rfl

@[simp] theorem encodeInstr_request (c : Cmd) (addr data : Nat) :
    encodeInstr (.request c addr data) = some (requestBytes (cmdCode c) addr data) := by
  cases c <;> rfl

@[simp] theorem encodeInstr_response (c : Cmd) (b1 b2 b3 : Byte) :
    encodeInstr (.response c b1 b2 b3) = some [rspCode c, b1, b2, b3] := by
  cases c <;> rfl

/-- A request row's match is its code byte over zeros. -/
@[simp] theorem rowMatch_request (c : Cmd) (addr data : Nat) :
    rowMatch (.request c addr data) = some (cmdCode c ++ 0#24) := by
  cases c <;> rfl

/-- A response row's match is its code byte over zeros. -/
@[simp] theorem rowMatch_response (c : Cmd) (b1 b2 b3 : Byte) :
    rowMatch (.response c b1 b2 b3) = some (rspCode c ++ 0#24) := by
  cases c <;> rfl

/-- R54: a byte is a command code, a response code or unassigned. -/
theorem codeByte_cases (b : Byte) :
    (∃ c, b = cmdCode c) ∨ (∃ c, b = rspCode c) ∨ (9 ≤ b.toNat ∧ b.toNat ≤ 246) := by
  by_cases hcmd : b.toNat ≤ 8
  · exact .inl (exists_cmdCode_of_le b hcmd)
  · by_cases hrsp : 247 ≤ b.toNat
    · exact .inr (.inl (exists_rspCode_of_ge b hrsp))
    · exact .inr (.inr ⟨by omega, by omega⟩)

theorem le_rspCode (c : Cmd) : 247 ≤ (rspCode c).toNat := by
  cases c <;> decide

@[simp] theorem decodeFrame_cmdCode (c : Cmd) (b1 b2 b3 : Byte) :
    decodeFrame [cmdCode c, b1, b2, b3] = .ok (.request c b1.toNat b2.toNat) := by
  simp only [decodeFrame, cmdOfCode_cmdCode]

@[simp] theorem decodeFrame_rspCode (c : Cmd) (b1 b2 b3 : Byte) :
    decodeFrame [rspCode c, b1, b2, b3] = .ok (.response c b1 b2 b3) := by
  simp only [decodeFrame, cmdOfCode_rspCode, rspOfCode_rspCode]

theorem decodeFrame_unassigned {b0 : Byte} (hlo : 9 ≤ b0.toNat) (hhi : b0.toNat ≤ 246) (b1 b2 b3 : Byte) :
    decodeFrame [b0, b1, b2, b3] = .error (.unassignedCode b0) := by
  simp only [decodeFrame, cmdOfCode_eq_none b0 hlo, rspOfCode_eq_none b0 (Nat.lt_succ_of_le hhi)]

theorem decodeFrame_wrongLength {bytes : List Byte} (h : bytes.length ≠ 4) :
    decodeFrame bytes = .error (.wrongLength bytes.length) := by
  unfold decodeFrame
  split
  · exact absurd rfl h
  · rfl

/-- What the decoder reads is a request row behind a command code or a response row behind a response code, with the frame's
other bytes as operands. -/
theorem decodeFrame_eq_ok {bytes : List Byte} {i : Instr} (h : decodeFrame bytes = .ok i) :
    (∃ c b1 b2 b3, bytes = [cmdCode c, b1, b2, b3] ∧ i = .request c b1.toNat b2.toNat) ∨
    (∃ c b1 b2 b3, bytes = [rspCode c, b1, b2, b3] ∧ i = .response c b1 b2 b3) := by
  by_cases hlen : bytes.length = 4
  · obtain ⟨b0, b1, b2, b3, rfl⟩ := List.length_eq_four.mp hlen
    obtain ⟨c, rfl⟩ | ⟨c, rfl⟩ | ⟨hlo, hhi⟩ := codeByte_cases b0
    · rw [decodeFrame_cmdCode] at h
      cases h
      exact .inl ⟨c, b1, b2, b3, rfl, rfl⟩
    · rw [decodeFrame_rspCode] at h
      cases h
      exact .inr ⟨c, b1, b2, b3, rfl, rfl⟩
    · rw [decodeFrame_unassigned hlo hhi] at h
      cases h
  · rw [decodeFrame_wrongLength hlen] at h
    cases h

end Sys2Proof
end

section
/-! PROOFS. Frames and their 32-bit view: encoding and decoding undo each other (20_memory R32, 30_encoding R46, R50, R57). -/

namespace Sys2Proof

/-- A byte at the end of a word is below every bit read from position 8 up. -/
theorem extractLsb'_append_byte {n k : Nat} (x : BitVec n) (b : Byte) :
    (x ++ b).extractLsb' (k + 8) 8 = x.extractLsb' k 8 :=
  BitVec.extractLsb'_append_eq_of_le (Nat.le_add_left 8 k)

/-- The 32-bit view loses none of the four bytes. -/
@[simp] theorem unpackFrame_packFrame (b0 b1 b2 b3 : Byte) :
    unpackFrame (packFrame b0 b1 b2 b3) = [b0, b1, b2, b3] := by
  have hb0 : (b0 ++ b1 ++ b2 ++ b3).extractLsb' 24 8 = b0 :=
    (extractLsb'_append_byte _ b3).trans ((extractLsb'_append_byte _ b2).trans BitVec.extractLsb'_append_eq_left)
  have hb1 : (b0 ++ b1 ++ b2 ++ b3).extractLsb' 16 8 = b1 :=
    (extractLsb'_append_byte _ b3).trans ((extractLsb'_append_byte _ b2).trans BitVec.extractLsb'_append_eq_right)
  have hb2 : (b0 ++ b1 ++ b2 ++ b3).extractLsb' 8 8 = b2 :=
    (extractLsb'_append_byte _ b3).trans BitVec.extractLsb'_append_eq_right
  have hb3 : (b0 ++ b1 ++ b2 ++ b3).extractLsb' 0 8 = b3 := BitVec.extractLsb'_append_eq_right
  simp only [unpackFrame, packFrame, hb0, hb1, hb2, hb3]

/-- Under the rows' mask a word keeps byte 0 of its frame, over zeros. -/
theorem and_rowMask (w : Word32) : w &&& rowMask = w.extractLsb' 24 8 ++ 0#24 := by
  have hsplit : w.extractLsb' 24 8 ++ w.extractLsb' 0 24 = w :=
    (BitVec.extractLsb'_append_extractLsb'_eq_extractLsb' rfl).trans BitVec.extractLsb'_eq_self
  have hmask : rowMask = BitVec.allOnes 8 ++ 0#24 := rfl
  calc w &&& rowMask
      = (w.extractLsb' 24 8 ++ w.extractLsb' 0 24) &&& (BitVec.allOnes 8 ++ 0#24) := by rw [hsplit, hmask]
    _ = w.extractLsb' 24 8 ++ 0#24 := by rw [BitVec.and_append, BitVec.and_allOnes, BitVec.and_zero]

/-- A word of 32 bits is read as its four bytes. -/
theorem decodeTableWord_toNat (w : Word32) :
    decodeTableWord 32 w.toNat = (decodeFrame (unpackFrame w)).toOption := by
  have hw : BitVec.ofNat 32 (w.toNat % 2 ^ 32) = w := by
    rw [BitVec.toNat_mod_cancel, BitVec.ofNat_toNat, BitVec.setWidth_eq]
  rw [decodeTableWord, if_pos le_rfl, hw]
  cases decodeFrame (unpackFrame w) <;> rfl

theorem decodeTableWord_packFrame (b0 b1 b2 b3 : Byte) :
    decodeTableWord 32 (packFrame b0 b1 b2 b3).toNat = (decodeFrame [b0, b1, b2, b3]).toOption := by
  rw [decodeTableWord_toNat, unpackFrame_packFrame]

/-- A request row with byte operands is read back from its own bytes: the decoder's operands are those bytes' values. -/
theorem decodeFrame_requestBytes (c : Cmd) {addr data : Nat} (ha : addr ≤ 255) (hd : data ≤ 255) :
    decodeFrame (requestBytes (cmdCode c) addr data) = .ok (.request c addr data) := by
  rw [requestBytes, decodeFrame_cmdCode, ← Machine.byteOf, ← Machine.byteOf, Machine.byteOf_toNat ha,
    Machine.byteOf_toNat hd]

/-- Settles O33: a well-formed row is a request whose operands are bytes or a response, and the decoder reads either back;
the 32-bit view holds the same four bytes. -/
theorem encodedRowsDecodeToThemselves : Obligations.EncodedRowsDecodeToThemselves := by
  intro i hwf henc hdec
  suffices h : ∃ b0 b1 b2 b3, encodeInstr i = some [b0, b1, b2, b3] ∧ decodeFrame [b0, b1, b2, b3] = .ok i by
    obtain ⟨b0, b1, b2, b3, hbytes, hread⟩ := h
    exact ⟨b0, b1, b2, b3, hbytes, hread, by rw [decodeTableWord_packFrame, hread]; rfl⟩
  obtain ⟨c, addr, data, rfl⟩ | ⟨c, b1, b2, b3, rfl⟩ := eq_request_or_response henc hdec
  · obtain ⟨ha, hd⟩ := (request_wf c addr data).mp hwf
    exact ⟨_, _, _, _, encodeInstr_request c addr data, decodeFrame_requestBytes c ha hd⟩
  · exact ⟨_, _, _, _, encodeInstr_response c b1 b2 b3, decodeFrame_rspCode c b1 b2 b3⟩

/-- Settles O34: a response row encodes to the bytes read, a request row to its first three and their checksum. -/
theorem decodedBytesEncodeBack : Obligations.DecodedBytesEncodeBack := by
  intro bytes i h
  obtain ⟨c, b1, b2, b3, rfl, rfl⟩ | ⟨c, b1, b2, b3, rfl, rfl⟩ := decodeFrame_eq_ok h
  · have hbytes : encodeInstr (.request c b1.toNat b2.toNat) = some [cmdCode c, b1, b2, cmdCode c ^^^ b1 ^^^ b2] := by
      simp [requestBytes]
    have hc := Machine.cmdCode_toNat_le c
    exact ⟨(request_wf c _ _).mpr ⟨by omega, by omega⟩, _, _, _, b3, _, rfl, hbytes, fun _ => by omega, fun _ => rfl⟩
  · have hc := le_rspCode c
    exact ⟨response_wf c b1 b2 b3, _, _, _, _, _, rfl, encodeInstr_response c b1 b2 b3, fun _ => rfl, fun _ => by omega⟩

/-- Settles O35: the row read is that of byte 0, all the mask leaves of the word; by the class of byte 0 four bytes are read or
rejected. -/
theorem codeByteSelectsTheTableRow : Obligations.CodeByteSelectsTheTableRow := by
  refine ⟨fun w i h => ?_, fun b0 b1 b2 b3 => ?_, fun b0 b1 b2 b3 hlo hhi => decodeFrame_unassigned hlo hhi b1 b2 b3,
    fun bytes h => decodeFrame_wrongLength h⟩
  · rw [and_rowMask]
    obtain ⟨c, b1, b2, b3, hw, rfl⟩ | ⟨c, b1, b2, b3, hw, rfl⟩ := decodeFrame_eq_ok h
    · rw [rowMatch_request, (List.cons.inj hw).1]
    · rw [rowMatch_response, (List.cons.inj hw).1]
  · obtain ⟨c, rfl⟩ | ⟨c, rfl⟩ | ⟨hlo, hhi⟩ := codeByte_cases b0
    · simp [Machine.cmdCode_toNat_le c]
    · simp [le_rspCode c]
    · rw [decodeFrame_unassigned hlo hhi]
      exact ⟨nofun, by omega⟩

/-- Settles O36: each word is the view of four bytes that a row, or none, is read from. -/
theorem writtenWordsDecode : Obligations.WrittenWordsDecode :=
  ⟨decodeTableWord_packFrame (cmdCode .setSingle) 0x03 0x20 0x25, decodeTableWord_packFrame (cmdCode .toggle) 0x04 0x81 0x8D,
    decodeTableWord_packFrame (rspCode .getPort) 0x00 0x01 0xFC, decodeTableWord_packFrame 0xF6 0x00 0x00 0xF6,
    decodeTableWord_packFrame (rspCode .setSingle) 0x03 0x21 0xDA⟩

end Sys2Proof

namespace Sys2Proof.Machine

/-- Settles O5: the word's instruction is issued first, so it is the one taken. -/
theorem stepRunsTheDecodedWord : Obligations.StepRunsTheDecodedWord := by
  intro nbits w i s h
  have hissue : s.withFetchWord nbits w = issueFirst i s := by
    simp only [State.withFetchWord, issueWord, h]
  simp only [hissue, step, takeOperation_issueFirst]

end Sys2Proof.Machine
end

section
/-! PROOFS. The two code tables, their pairing and the checksum (30_encoding R47 to R49, R52). -/

namespace Sys2Proof

theorem pairedCode_toNat (b : Byte) : (pairedCode b).toNat = 255 - b.toNat := by
  rw [pairedCode]
  bv_omega

/-- Pairing a code is complementing its byte. -/
theorem pairedCode_eq_xor (b : Byte) : pairedCode b = b ^^^ 0xFF := by
  have hones : (0xFF : Byte) = BitVec.allOnes 8 := rfl
  rw [hones, BitVec.xor_allOnes]
  exact BitVec.allOnes_sub_eq_not b

theorem pairedCode_cmdCode (c : Cmd) : pairedCode (cmdCode c) = rspCode c := by
  cases c <;> rfl

theorem pairedCode_rspCode (c : Cmd) : pairedCode (rspCode c) = cmdCode c := by
  cases c <;> rfl

/-- Settles O28: the membership tests in numbers, the nine names' rows, and the pairing of names and of bytes. -/
theorem codeTablesAndPairing : Obligations.CodeTablesAndPairing :=
  ⟨isCommandCode_iff, isResponseCode_iff, rfl, fun c => ⟨pairedCode_cmdCode c, pairedCode_rspCode c⟩,
    fun b => ⟨pairedCode_eq_xor b, pairedCode_toNat b⟩⟩

end Sys2Proof

namespace Sys2Proof.Machine

theorem checksum_toNat (b0 b1 b2 : Byte) : (checksum b0 b1 b2).toNat = b0.toNat ^^^ b1.toNat ^^^ b2.toNat := by
  simp only [checksum, BitVec.toNat_xor]

/-- Settles O30: exclusive OR commutes, and two bytes are equal exactly when they XOR to zero. -/
theorem checksumIsXorInAnyOrder : Obligations.ChecksumIsXorInAnyOrder := by
  intro b0 b1 b2 b3
  refine ⟨checksum_toNat b0 b1 b2, ?_, ?_, ?_⟩
  · rw [checksum, BitVec.xor_comm b0 b1, checksum]
  · rw [checksum, BitVec.xor_assoc, BitVec.xor_comm b1 b2, ← BitVec.xor_assoc, checksum]
  · rw [eq_comm, checksum]
    exact BitVec.xor_eq_zero_iff.symm

end Sys2Proof.Machine
end

section
/-! PROOFS. ENCODE's and DECODE's errors in the order of their checks, and the three classes of a code byte (30_encoding R54 to
R56, 40_encode R62 to R66, 41_decode R84 to R88). -/

namespace Sys2Proof.Machine

theorem delivers_encode_cmdError {cmd : Nat} (hc : 8 < cmd) (addr data : Nat) :
    Delivers (.encode cmd addr data) (.err (.format .cmd cmd)) := by
  rw [delivers_encode_err_iff]
  obtain ⟨-, h⟩ | ⟨h, -⟩ | ⟨h, -⟩ | ⟨h, -⟩ := formatCheck_cases cmd addr data
  · exact h
  all_goals omega

theorem delivers_encode_addrError {cmd addr : Nat} (hc : cmd ≤ 8) (ha : 255 < addr) (data : Nat) :
    Delivers (.encode cmd addr data) (.err (.format .addr addr)) := by
  rw [delivers_encode_err_iff]
  obtain ⟨h, -⟩ | ⟨-, -, h⟩ | ⟨-, h, -⟩ | ⟨-, h, -⟩ := formatCheck_cases cmd addr data
  · omega
  · exact h
  all_goals omega

theorem delivers_encode_dataError {cmd addr data : Nat} (hc : cmd ≤ 8) (ha : addr ≤ 255) (hd : 255 < data) :
    Delivers (.encode cmd addr data) (.err (.format .data data)) := by
  rw [delivers_encode_err_iff]
  obtain ⟨h, -⟩ | ⟨-, h, -⟩ | ⟨-, -, -, h⟩ | ⟨-, -, h, -⟩ := formatCheck_cases cmd addr data
  · omega
  · omega
  · exact h
  · omega

/-- ENCODE of operands in range delivers the frame of their bytes (R66). -/
theorem delivers_encode_okFrame {cmd addr data : Nat} (hc : cmd ≤ 8) (ha : addr ≤ 255) (hd : data ≤ 255) :
    Delivers (.encode cmd addr data) (.okFrame ⟨byteOf cmd, byteOf addr, byteOf data,
      checksum (byteOf cmd) (byteOf addr) (byteOf data)⟩) :=
  runEncode_ok (encodeOp_inRange hc ha hd)

/-- Settles O11: each clause assumes that the checks before the failing one pass. -/
theorem encodeErrorsInOrder : Obligations.EncodeErrorsInOrder := fun _ addr data =>
  ⟨fun hc => delivers_encode_cmdError hc addr data, fun hc ha => delivers_encode_addrError hc ha data,
    delivers_encode_dataError⟩

theorem delivers_decode_length {buf : List Byte} (h : buf.length ≠ 4) :
    Delivers (.decode buf) (.err (.protocol (.length buf.length))) :=
  runDecode_error (decodeOp_length h)

/-- Settles O19: each clause assumes that the checks before the failing one pass. -/
theorem decodeErrorsInOrder : Obligations.DecodeErrorsInOrder :=
  ⟨fun _ => delivers_decode_length, fun _ b1 b2 b3 hcode => delivers_decode_unknownCode hcode b1 b2 b3,
    fun _ _ _ _ => delivers_decode_checksum⟩

/-- Behind a response code DECODE accepts exactly the matching checksum (R86, R88). -/
theorem exists_delivers_okResponse_iff {b0 : Byte} (hcode : 247 ≤ b0.toNat) (b1 b2 b3 : Byte) :
    (∃ rf, Delivers (.decode [b0, b1, b2, b3]) (.okResponse rf)) ↔ b0 ^^^ b1 ^^^ b2 = b3 := by
  refine ⟨fun ⟨rf, h⟩ => ?_, fun hsum => ⟨_, delivers_decode_okResponse hcode hsum⟩⟩
  by_contra hsum
  cases h.unique (delivers_decode_checksum hcode hsum)

/-- Settles O29: below 247 DECODE refuses the code, above 8 ENCODE refuses it, and byte fields fail no other check. -/
theorem codeBytesSplitInThreeClasses : Obligations.CodeBytesSplitInThreeClasses := by
  intro code b1 b2 b3
  have hb1 := Nat.le_of_lt_succ b1.isLt
  have hb2 := Nat.le_of_lt_succ b2.isLt
  refine ⟨fun hc => ⟨⟨_, delivers_encode_okFrame hc hb1 hb2⟩, ?_⟩, fun hlo hhi => ⟨?_, ?_⟩, fun hrsp => ⟨?_, ?_⟩, fun n hn => ?_⟩
  · exact delivers_decode_unknownCode (by omega) b1 b2 b3
  · exact delivers_encode_cmdError (by omega) b1.toNat b2.toNat
  · exact delivers_decode_unknownCode (by omega) b1 b2 b3
  · exact delivers_encode_cmdError (by omega) b1.toNat b2.toNat
  · exact exists_delivers_okResponse_iff hrsp b1 b2 b3
  · exact delivers_encode_cmdError (by omega) b1.toNat b2.toNat

end Sys2Proof.Machine
end

section
/-! PROOFS. The host's pseudo-operations as named ENCODEs and DECODEs (30_encoding R59, R60). -/

namespace Sys2Proof.Machine

/-- The address an exchange is with (R60). -/
def Exchange.address : Exchange → Nat
  | .getPorts a => a
  | .setPorts a _ => a
  | .setSinglePort a _ _ => a
  | .togglePorts a _ => a
  | .togglePort a _ => a

/-- Every exchange issues a named ENCODE with its own address. -/
theorem encodeRequest_address (x : Exchange) : ∃ c d, x.encodeRequest = encodeNamed c x.address d := by
  rcases x with _ | _ | ⟨_, _, _ | _⟩ | _ | _ <;> exact ⟨_, _, rfl⟩

/-- A named ENCODE with a byte address sends the name's code, the address and the data byte. -/
theorem sends_of_expand_eq {h : HostOp} {c : Cmd} {a : Nat} {d : Byte} (hexp : h.expand = encodeNamed c a d)
    (ha : a ≤ 255) : h.Sends (cmdCode c).toNat a d.toNat := by
  have hc := cmdCode_toNat_le c
  have hd := Nat.le_of_lt_succ d.isLt
  have hf := delivers_encode_okFrame hc ha hd
  rw [← encodeNamed, ← hexp] at hf
  refine ⟨_, hf, ?_, ?_, ?_, ?_⟩
  · exact byteOf_toNat (by omega)
  · exact byteOf_toNat ha
  · exact byteOf_toNat hd
  · rw [checksum_toNat, byteOf_toNat (by omega), byteOf_toNat ha, byteOf_toNat hd]

/-- An exchange with an address above 255 fails ENCODE's address check, for its code is a command code. -/
theorem delivers_request_addrError {x : Exchange} (ha : 255 < x.address) :
    Delivers (HostOp.request x).expand (.err (.format .addr x.address)) := by
  obtain ⟨c, d, h⟩ := encodeRequest_address x
  rw [HostOp.expand, h]
  exact delivers_encode_addrError (cmdCode_toNat_le c) ha d.toNat

/-- Settles O37: each row of R60's table is one named ENCODE, or the DECODE of the bytes read. -/
theorem pseudoOperationsEncodeTheirFrames : Obligations.PseudoOperationsEncodeTheirFrames := by
  refine ⟨fun a ha => ⟨?_, fun m => ⟨?_, ?_⟩, fun p => ?_⟩, ?_, fun a m p on ha x hx => ?_, ?_, rfl, ?_⟩
  · exact sends_of_expand_eq (c := .getPort) rfl ha
  · exact sends_of_expand_eq (c := .setPort) rfl ha
  · exact sends_of_expand_eq (c := .toggle) rfl ha
  · rw [← portMask_toNat p]
    exact ⟨sends_of_expand_eq (c := .setSingle) rfl ha, sends_of_expand_eq (c := .delSingle) rfl ha,
      sends_of_expand_eq (c := .toggle) rfl ha⟩
  · exact sends_of_expand_eq (c := .setup) rfl (by decide)
  · have hax : x.address = a := by
      simp only [List.mem_cons, List.not_mem_nil, or_false] at hx
      obtain rfl | rfl | rfl | rfl | rfl := hx <;> rfl
    rw [← hax] at ha ⊢
    exact delivers_request_addrError ha
  · exact fun _ _ _ => ⟨rfl, rfl, rfl, rfl, rfl, rfl⟩
  · exact fun _ _ => ⟨rfl, rfl⟩

end Sys2Proof.Machine
end

section
/-! PROOFS. The frames ENCODE delivers: which operands deliver which frame, and the laws that follow (40_encode R66, R68 to R70, R81). -/

namespace Sys2Proof.Machine

/-- ENCODE delivers a frame exactly when the command code is one of the nine and the frame's bytes hold the operands and their
XOR (R66). -/
theorem delivers_encode_okFrame_iff (cmd addr data : Nat) (f : RequestFrame) :
    Delivers (.encode cmd addr data) (.okFrame f) ↔
      cmd ≤ 8 ∧ f.b0.toNat = cmd ∧ f.b1.toNat = addr ∧ f.b2.toNat = data ∧ f.b3 = f.b0 ^^^ f.b1 ^^^ f.b2 := by
  constructor
  · intro h
    have hpass : ∀ e, formatCheck cmd addr data ≠ some e := fun e he =>
      nomatch h.unique ((delivers_encode_err_iff cmd addr data e).mpr he)
    obtain ⟨-, he⟩ | ⟨-, -, he⟩ | ⟨-, -, -, he⟩ | ⟨hc, ha, hd, -⟩ := formatCheck_cases cmd addr data
    · exact absurd he (hpass _)
    · exact absurd he (hpass _)
    · exact absurd he (hpass _)
    · cases h.unique (delivers_encode_okFrame hc ha hd)
      exact ⟨hc, byteOf_toNat (by omega), byteOf_toNat ha, byteOf_toNat hd, rfl⟩
  · obtain ⟨b0, b1, b2, b3⟩ := f
    dsimp only
    rintro ⟨hc, rfl, rfl, rfl, rfl⟩
    have h := delivers_encode_okFrame hc (Nat.le_of_lt_succ b1.isLt) (Nat.le_of_lt_succ b2.isLt)
    simpa only [byteOf, checksum, BitVec.ofNat_toNat, BitVec.setWidth_eq] using h

/-- Settles O10: a byte holds an operand in range, and XOR of bytes is XOR of their values. -/
theorem encodeReturnsTheFrame : Obligations.EncodeReturnsTheFrame := by
  intro cmd addr data hc ha hd
  have h := delivers_encode_okFrame hc ha hd
  obtain ⟨-, h0, h1, h2, -⟩ := (delivers_encode_okFrame_iff cmd addr data _).mp h
  exact ⟨_, h, h0, h1, h2, by rw [checksum_toNat, h0, h1, h2]⟩

/-- Settles O12: the operands can be read off the frame, whose last byte is the XOR of the others. -/
theorem encodeLaws : Obligations.EncodeLaws := by
  refine ⟨fun cmd addr data => ?_, fun cmd addr data cmd' addr' data' f h h' => ?_, fun cmd addr data f h => ?_⟩
  · obtain ⟨o, ho⟩ := exists_delivers (.encode cmd addr data)
    exact ⟨o, ho, fun _ h => h.unique ho⟩
  · obtain ⟨-, h0, h1, h2, -⟩ := (delivers_encode_okFrame_iff cmd addr data f).mp h
    obtain ⟨-, h0', h1', h2', -⟩ := (delivers_encode_okFrame_iff cmd' addr' data' f).mp h'
    exact ⟨h0.symm.trans h0', h1.symm.trans h1', h2.symm.trans h2'⟩
  · obtain ⟨-, rfl, rfl, rfl, hsum⟩ := (delivers_encode_okFrame_iff cmd addr data f).mp h
    rw [hsum]
    exact ⟨BitVec.xor_self, checksum_toNat f.b0 f.b1 f.b2⟩

/-- The operand triples that pass ENCODE's checks (R62 to R64). -/
def validTriples : Set (Nat × Nat × Nat) := Set.Iic 8 ×ˢ Set.Iic 255 ×ˢ Set.Iic 255

theorem ncard_validTriples : validTriples.ncard = 589824 := by
  simp only [validTriples, Set.ncard_prod, Set.ncard_Iic_nat]

/-- The frame ENCODE delivers for a valid triple (`delivers_requestFrame`). -/
def requestFrame (t : Nat × Nat × Nat) : RequestFrame :=
  ⟨byteOf t.1, byteOf t.2.1, byteOf t.2.2, checksum (byteOf t.1) (byteOf t.2.1) (byteOf t.2.2)⟩

theorem delivers_requestFrame {t : Nat × Nat × Nat} (h : t ∈ validTriples) :
    Delivers (.encode t.1 t.2.1 t.2.2) (.okFrame (requestFrame t)) := by
  obtain ⟨hc, ha, hd⟩ := h
  exact delivers_encode_okFrame hc ha hd

/-- ENCODE delivers the frames of the valid triples and no others. -/
theorem deliveredFrames_eq_image :
    {f : RequestFrame | ∃ cmd addr data, Delivers (.encode cmd addr data) (.okFrame f)} =
      requestFrame '' validTriples := by
  ext f
  constructor
  · rintro ⟨cmd, addr, data, h⟩
    obtain ⟨hc, -, ha, hd, -⟩ := (delivers_encode_okFrame_iff cmd addr data f).mp h
    have hmem : (cmd, addr, data) ∈ validTriples := by
      subst ha hd
      exact ⟨hc, Nat.le_of_lt_succ f.b1.isLt, Nat.le_of_lt_succ f.b2.isLt⟩
    cases h.unique (delivers_requestFrame hmem)
    exact ⟨_, hmem, rfl⟩
  · rintro ⟨t, hmem, rfl⟩
    exact ⟨_, _, _, delivers_requestFrame hmem⟩

/-- Distinct valid triples have distinct frames (R70 item 2). -/
theorem requestFrame_injOn : Set.InjOn requestFrame validTriples := by
  intro t ht t' ht' heq
  have h := delivers_requestFrame ht
  rw [heq] at h
  obtain ⟨-, hinj, -⟩ := encodeLaws
  obtain ⟨hc, ha, hd⟩ := hinj _ _ _ _ _ _ _ h (delivers_requestFrame ht')
  exact Prod.ext hc (Prod.ext ha hd)

/-- Settles O13: as many frames as valid triples, for ENCODE is injective on them. -/
theorem requestFramesNumber589824 : Obligations.RequestFramesNumber589824 := by
  rw [Obligations.RequestFramesNumber589824, deliveredFrames_eq_image, requestFrame_injOn.ncard_image,
    ncard_validTriples]

/-- Settles O14: 0 and 255 are in range, and 256 is not. -/
theorem encodeAcceptsFieldBoundaries : Obligations.EncodeAcceptsFieldBoundaries := by
  intro cmd hc
  refine ⟨fun v hv w hw => ?_, fun w hw => ?_⟩
  · have hv' : v ≤ 255 := by omega
    obtain ⟨f, hf, -, hf1, -⟩ := encodeReturnsTheFrame cmd v w hc hv' hw
    obtain ⟨g, hg, -, -, hg2, -⟩ := encodeReturnsTheFrame cmd w v hc hw hv'
    exact ⟨f, g, hf, hf1, hg, hg2⟩
  · exact ⟨delivers_encode_addrError hc (by decide) w, delivers_encode_dataError hc hw (by decide)⟩

/-- Settles O15: equal fields cancel out of the XOR, and NOOP with any code as address and data 0 has that code as checksum. -/
theorem encodeCoincidingOperands : Obligations.EncodeCoincidingOperands := by
  refine ⟨fun cmd v hc hv => ?_, fun cmd addr data hc ha hd hzero => ?_, fun code _ => ?_⟩
  · obtain ⟨f, hf, -, -, -, hsum⟩ := encodeReturnsTheFrame cmd v v hc hv hv
    exact ⟨f, hf, by rw [hsum, Nat.xor_assoc, Nat.xor_self, Nat.xor_zero]⟩
  · obtain ⟨f, hf, -, -, -, hsum⟩ := encodeReturnsTheFrame cmd addr data hc ha hd
    exact ⟨f, hf, BitVec.eq_of_toNat_eq (hsum.trans hzero)⟩
  · have hsum : code = 0 ^^^ code ^^^ 0 := by simp
    exact ⟨0, code.toNat, 0, ⟨0, code, 0, code⟩,
      (delivers_encode_okFrame_iff _ _ _ _).mpr ⟨by decide, rfl, rfl, rfl, hsum⟩, rfl⟩

/-- Settles O23: a command code is below the response codes. -/
theorem requestFrameIsNeverAccepted : Obligations.RequestFrameIsNeverAccepted := by
  intro cmd addr data hc ha hd
  obtain ⟨f, hf, hcode, -⟩ := encodeReturnsTheFrame cmd addr data hc ha hd
  exact ⟨f, hf, hcode, delivers_decode_unknownCode (by omega) f.b1 f.b2 f.b3⟩

end Sys2Proof.Machine
end

section
/-! PROOFS. The nine request rows: ENCODE with the row's code, and its match under the mask (40_encode R72 to R80). -/

namespace Sys2Proof

/-- Under the rows' mask the 32-bit view keeps byte 0, in bits 31:24 (R32, R57). -/
theorem packFrame_and_rowMask (b0 b1 b2 b3 : Byte) :
    packFrame b0 b1 b2 b3 &&& rowMask = b0.setWidth 32 <<< 24 := by
  have hb0 : (packFrame b0 b1 b2 b3).extractLsb' 24 8 = b0 := (List.cons.inj (unpackFrame_packFrame b0 b1 b2 b3)).1
  have hshift : b0 ++ 0#24 = b0.setWidth 32 <<< 24 := by
    rw [BitVec.append_def, BitVec.shiftLeftZeroExtend_eq, BitVec.setWidth'_eq, BitVec.setWidth_zero, BitVec.or_zero]
  rw [and_rowMask, hb0, hshift]

end Sys2Proof

namespace Sys2Proof.Machine

/-- A request row is ENCODE with its name's command code (R72 to R80). -/
theorem exec_request (c : Cmd) (addr data : Nat) (s : State) :
    exec (.request c addr data) s = exec (.encode (cmdCode c).toNat addr data) s := by
  cases c <;> rfl

theorem delivers_request_iff (c : Cmd) (addr data : Nat) (o : OpOutcome) :
    Delivers (.request c addr data) o ↔ Delivers (.encode (cmdCode c).toNat addr data) o := by
  simp only [Delivers, exec_request]

/-- The request row of every name means what its rule says, with the name's own two codes. -/
theorem requestRowMeans (c : Cmd) : RequestRowMeans (Instr.request c) (cmdCode c) (rspCode c) := by
  have hc := cmdCode_toNat_le c
  refine ⟨fun addr data ha hd => ?_, fun addr data ha => ?_, fun addr data ha hd => ?_, ?_⟩
  · obtain ⟨f, hf, h0, h1, h2, -⟩ := encodeReturnsTheFrame _ addr data hc ha hd
    obtain ⟨-, -, -, -, hsum⟩ := (delivers_encode_okFrame_iff _ _ _ f).mp hf
    have hcode : f.b0 = cmdCode c := BitVec.eq_of_toNat_eq h0
    rw [hcode] at hsum
    refine ⟨f, (delivers_request_iff c addr data _).mpr hf, hcode, h1, h2, hsum, fun heq => ?_, ?_⟩
    · have hfields : f.b1 = f.b2 := BitVec.eq_of_toNat_eq (by rw [h1, h2, heq])
      rw [hsum, hfields, BitVec.xor_assoc, BitVec.xor_self, BitVec.xor_zero]
    · rw [hcode]
      exact packFrame_and_rowMask _ _ _ _
  · exact (delivers_request_iff c addr data _).mpr (delivers_encode_addrError hc ha data)
  · exact (delivers_request_iff c addr data _).mpr (delivers_encode_dataError hc ha hd)
  · rw [← pairedCode_cmdCode, pairedCode_toNat]

/-- Settles O17: each row is the request row of its name. -/
theorem requestRowsMeanTheirRules : Obligations.RequestRowsMeanTheirRules :=
  ⟨requestRowMeans .noop, requestRowMeans .setup, requestRowMeans .getPort, requestRowMeans .setPort,
    requestRowMeans .getOption, requestRowMeans .setOption, requestRowMeans .setSingle, requestRowMeans .delSingle,
    requestRowMeans .toggle⟩

end Sys2Proof.Machine
end

section
/-! PROOFS. The buffers DECODE accepts: which they are, how many, and the one reply that repeats a request's fields (41_decode R88,
R90, R92, R93). -/

namespace Sys2Proof

theorem pairedCode_pairedCode (b : Byte) : pairedCode (pairedCode b) = b := by
  simp only [pairedCode_eq_xor, BitVec.xor_assoc, BitVec.xor_self, BitVec.xor_zero]

theorem cmdCode_mem_cmdTable (c : Cmd) : cmdCode c ∈ cmdTable := by
  cases c <;> decide

end Sys2Proof

namespace Sys2Proof.Machine

/-- Settles O18: a response code is a name's own, paired with the name's command code. -/
theorem decodeReturnsTheFourBytes : Obligations.DecodeReturnsTheFourBytes := by
  intro b0 b1 b2 b3 hcode hsum
  refine ⟨delivers_decode_okResponse hcode hsum, pairedCode_toNat b0, ?_⟩
  obtain ⟨c, rfl⟩ := exists_rspCode_of_ge b0 hcode
  rw [pairedCode_rspCode]
  exact cmdCode_mem_cmdTable c

/-- DECODE delivers a response exactly when the buffer is the response's four bytes, its code is a response code and its checksum
is the XOR of the other bytes (R84 to R88, R90). -/
theorem delivers_decode_okResponse_iff (buf : List Byte) (rf : ResponseFrame) :
    Delivers (.decode buf) (.okResponse rf) ↔
      buf = [rf.code, rf.address, rf.data, rf.checksum] ∧ 247 ≤ rf.code.toNat ∧
        rf.code ^^^ rf.address ^^^ rf.data = rf.checksum := by
  constructor
  · intro h
    by_cases hlen : buf.length = 4
    · obtain ⟨b0, b1, b2, b3, rfl⟩ := List.length_eq_four.mp hlen
      by_cases hcode : 247 ≤ b0.toNat
      · have hsum := (exists_delivers_okResponse_iff hcode b1 b2 b3).mp ⟨rf, h⟩
        cases h.unique (delivers_decode_okResponse hcode hsum)
        exact ⟨rfl, hcode, hsum⟩
      · cases h.unique (delivers_decode_unknownCode (not_le.mp hcode) b1 b2 b3)
    · cases h.unique (delivers_decode_length hlen)
  · rintro ⟨rfl, hcode, hsum⟩
    exact delivers_decode_okResponse hcode hsum

/-- Settles O20: an operation has one outcome, and a byte equals the checksum exactly when it XORs with it to zero. -/
theorem decodeAcceptsExactlyTheFrames : Obligations.DecodeAcceptsExactlyTheFrames := by
  refine fun buf => ⟨?_, ?_⟩
  · obtain ⟨o, ho⟩ := exists_delivers (.decode buf)
    exact ⟨o, ho, fun _ h => h.unique ho⟩
  · have hzero (b b' : Byte) : b ^^^ b' = 0 ↔ b = b' := BitVec.xor_eq_zero_iff
    simp only [delivers_decode_okResponse_iff, hzero]
    exact ⟨fun ⟨rf, h⟩ => ⟨rf.code, rf.address, rf.data, rf.checksum, h⟩,
      fun ⟨b0, b1, b2, b3, h⟩ => ⟨⟨b0, b1, b2, b3⟩, h⟩⟩

/-- Four bytes are accepted exactly when they pass the checks of code and checksum (R85, R86). -/
theorem exists_delivers_decode_four_iff (b0 b1 b2 b3 : Byte) :
    (∃ rf, Delivers (.decode [b0, b1, b2, b3]) (.okResponse rf)) ↔ 247 ≤ b0.toNat ∧ b0 ^^^ b1 ^^^ b2 = b3 := by
  constructor
  · rintro ⟨rf, h⟩
    obtain ⟨hbuf, hchecks⟩ := (delivers_decode_okResponse_iff _ rf).mp h
    cases hbuf
    exact hchecks
  · rintro ⟨hcode, hsum⟩
    exact ⟨_, delivers_decode_okResponse hcode hsum⟩

/-- Four bytes behind the pair of `b0` are accepted exactly when `b0` is a command code and the last byte is the complement of
the checksum with `b0` (R93): pairing complements one byte of the XOR. -/
theorem exists_delivers_pairedReply_iff (b0 b1 b2 x : Byte) :
    (∃ rf, Delivers (.decode [pairedCode b0, b1, b2, x]) (.okResponse rf)) ↔
      b0.toNat ≤ 8 ∧ x = b0 ^^^ b1 ^^^ b2 ^^^ 0xFF := by
  have hcode : 247 ≤ (pairedCode b0).toNat ↔ b0.toNat ≤ 8 := by
    rw [pairedCode_toNat]
    omega
  have hsum : pairedCode b0 ^^^ b1 ^^^ b2 = b0 ^^^ b1 ^^^ b2 ^^^ 0xFF := by
    rw [pairedCode_eq_xor]
    ac_rfl
  rw [exists_delivers_decode_four_iff, hcode, hsum, eq_comm]

/-- Settles O24: the request's code is a command code and its checksum the XOR that the reply's is the complement of. -/
theorem echoedReplyChecksumIsComplement : Obligations.EchoedReplyChecksumIsComplement := by
  intro cmd addr data hc ha hd
  refine ⟨_, delivers_encode_okFrame hc ha hd, fun x => ?_⟩
  have hcode : (byteOf cmd).toNat ≤ 8 := by rwa [byteOf_toNat (hc.trans (by decide))]
  exact (exists_delivers_pairedReply_iff _ _ _ x).trans (and_iff_right hcode)

/-- The reply that repeats a request's address and data between the complements of its code and its checksum (R93). -/
def echoedReply (f : RequestFrame) : List Byte := [pairedCode f.b0, f.b1, f.b2, f.b3 ^^^ 0xFF]

/-- Each of a reply's bytes determines the request's: pairing and complementing are undone by themselves. -/
theorem echoedReply_injective : Function.Injective echoedReply := by
  rintro ⟨b0, b1, b2, b3⟩ ⟨b0', b1', b2', b3'⟩ h
  simp only [echoedReply, pairedCode_eq_xor, List.cons.injEq, BitVec.xor_left_inj, and_true] at h
  obtain ⟨rfl, rfl, rfl, rfl⟩ := h
  rfl

/-- DECODE accepts the replies to the frames ENCODE delivers, and no other buffer. -/
theorem acceptedBuffers_eq_image :
    {buf : List Byte | ∃ rf, Delivers (.decode buf) (.okResponse rf)} =
      echoedReply '' {f : RequestFrame | ∃ cmd addr data, Delivers (.encode cmd addr data) (.okFrame f)} := by
  ext buf
  constructor
  · rintro ⟨rf, h⟩
    obtain ⟨rfl, -⟩ := (delivers_decode_okResponse_iff buf rf).mp h
    rw [← pairedCode_pairedCode rf.code] at h
    obtain ⟨hcode, hsum⟩ := (exists_delivers_pairedReply_iff _ _ _ _).mp ⟨rf, h⟩
    refine ⟨⟨pairedCode rf.code, rf.address, rf.data, checksum (pairedCode rf.code) rf.address rf.data⟩, ?_, ?_⟩
    · exact ⟨_, _, _, (delivers_encode_okFrame_iff _ _ _ _).mpr ⟨hcode, rfl, rfl, rfl, rfl⟩⟩
    · rw [echoedReply, pairedCode_pairedCode, hsum, checksum]
  · rintro ⟨f, ⟨cmd, addr, data, h⟩, rfl⟩
    obtain ⟨hc, rfl, -, -, hsum⟩ := (delivers_encode_okFrame_iff cmd addr data f).mp h
    exact (exists_delivers_pairedReply_iff _ _ _ _).mpr ⟨hc, by rw [hsum]⟩

/-- Settles O21: as many accepted buffers as request frames, for each is the reply to exactly one. -/
theorem acceptedBuffersNumber589824 : Obligations.AcceptedBuffersNumber589824 := by
  rw [Obligations.AcceptedBuffersNumber589824, acceptedBuffers_eq_image,
    Set.ncard_image_of_injective _ echoedReply_injective]
  exact requestFramesNumber589824

end Sys2Proof.Machine
end

section
/-! PROOFS. The nine response rows: DECODE of four bytes behind the row's code (41_decode R94 to R102). -/

namespace Sys2Proof.Machine

/-- A response row is DECODE behind its name's response code (R94 to R102). -/
theorem exec_response (c : Cmd) (b1 b2 b3 : Byte) (s : State) :
    exec (.response c b1 b2 b3) s = exec (.decode [rspCode c, b1, b2, b3]) s := by
  cases c <;> rfl

theorem delivers_response_iff (c : Cmd) (b1 b2 b3 : Byte) (o : OpOutcome) :
    Delivers (.response c b1 b2 b3) o ↔ Delivers (.decode [rspCode c, b1, b2, b3]) o := by
  simp only [Delivers, exec_response]

/-- The same bits flipped in two bytes leave the XOR as it was. -/
theorem xor_flip_flip (b0 b1 b2 e : Byte) : b0 ^^^ (b1 ^^^ e) ^^^ (b2 ^^^ e) = b0 ^^^ b1 ^^^ b2 := by
  calc b0 ^^^ (b1 ^^^ e) ^^^ (b2 ^^^ e) = b0 ^^^ b1 ^^^ b2 ^^^ (e ^^^ e) := by ac_rfl
    _ = b0 ^^^ b1 ^^^ b2 := by rw [BitVec.xor_self, BitVec.xor_zero]

/-- The response row of every name means what its rule says, with the name's own two codes. -/
theorem responseRowMeans (c : Cmd) : ResponseRowMeans (Instr.response c) (rspCode c) (cmdCode c) := by
  have hcode := le_rspCode c
  simp only [ResponseRowMeans, delivers_response_iff]
  refine ⟨fun b1 b2 b3 hsum => ?_, fun b1 b2 b3 hsum => ?_, fun b1 b2 e => ?_, fun b1 b2 b3 => ?_, exec_response c, ?_⟩
  · exact delivers_decode_okResponse hcode hsum.symm
  · exact delivers_decode_checksum hcode hsum.symm
  · exact delivers_decode_okResponse hcode (xor_flip_flip _ b1 b2 e)
  · exact packFrame_and_rowMask _ b1 b2 b3
  · rw [← pairedCode_rspCode, pairedCode_toNat]

/-- Settles O22: each row is the response row of its name. -/
theorem responseRowsMeanTheirRules : Obligations.ResponseRowsMeanTheirRules :=
  ⟨responseRowMeans .noop, responseRowMeans .setup, responseRowMeans .getPort, responseRowMeans .setPort,
    responseRowMeans .getOption, responseRowMeans .setOption, responseRowMeans .setSingle, responseRowMeans .delSingle,
    responseRowMeans .toggle⟩

end Sys2Proof.Machine
end

section
/-! PROOFS. Errors: nothing of one stays for the next operation, the complete list of them, and the status codes (60_exceptions
R104, R105, R108, R110). -/

namespace Sys2Proof.Machine

/-- Settles O2: each operation's outcome is the same in every state, the state the earlier operation answers among them. -/
theorem earlierOperationLeavesNothingBehind : Obligations.EarlierOperationLeavesNothingBehind := by
  intro i j s
  obtain ⟨oi, hi⟩ := exists_delivers i
  obtain ⟨oj, hj⟩ := exists_delivers j
  exact ⟨oi, oj, deliver oi s, hi s, deliver_outcomes oi s, hj (deliver oi s), hj s⟩

/-- ENCODE's errors, each behind the checks that pass before it (R104, R108). -/
theorem delivers_encode_err_iff_cause (cmd addr data : Nat) (e : CodecError) :
    Delivers (.encode cmd addr data) (.err e) ↔
      (8 < cmd ∧ e = .format .cmd cmd) ∨
      (cmd ≤ 8 ∧ 255 < addr ∧ e = .format .addr addr) ∨
      (cmd ≤ 8 ∧ addr ≤ 255 ∧ 255 < data ∧ e = .format .data data) := by
  constructor
  · intro h
    rw [delivers_encode_err_iff] at h
    obtain ⟨hc, hcmd⟩ | ⟨hc, ha, haddr⟩ | ⟨hc, ha, hd, hdata⟩ | ⟨-, -, -, hnone⟩ := formatCheck_cases cmd addr data
    · cases hcmd.symm.trans h
      exact .inl ⟨hc, rfl⟩
    · cases haddr.symm.trans h
      exact .inr (.inl ⟨hc, ha, rfl⟩)
    · cases hdata.symm.trans h
      exact .inr (.inr ⟨hc, ha, hd, rfl⟩)
    · cases hnone.symm.trans h
  · rintro (⟨hc, rfl⟩ | ⟨hc, ha, rfl⟩ | ⟨hc, ha, hd, rfl⟩)
    · exact delivers_encode_cmdError hc addr data
    · exact delivers_encode_addrError hc ha data
    · exact delivers_encode_dataError hc ha hd

/-- DECODE's errors, each behind the checks that pass before it (R104, R108). -/
theorem delivers_decode_err_iff_cause (buf : List Byte) (e : CodecError) :
    Delivers (.decode buf) (.err e) ↔
      (buf.length ≠ 4 ∧ e = .protocol (.length buf.length)) ∨
      (∃ b0 b1 b2 b3, buf = [b0, b1, b2, b3] ∧ b0.toNat < 247 ∧ e = .protocol (.unknownCode b0)) ∨
      (∃ b0 b1 b2 b3, buf = [b0, b1, b2, b3] ∧ 247 ≤ b0.toNat ∧ b0 ^^^ b1 ^^^ b2 ≠ b3 ∧
        e = .protocol (.checksum b3 (b0 ^^^ b1 ^^^ b2))) := by
  constructor
  · intro h
    by_cases hlen : buf.length = 4
    · obtain ⟨b0, b1, b2, b3, rfl⟩ := List.length_eq_four.mp hlen
      by_cases hcode : b0.toNat < 247
      · cases h.unique (delivers_decode_unknownCode hcode b1 b2 b3)
        exact .inr (.inl ⟨b0, b1, b2, b3, rfl, hcode, rfl⟩)
      · have hrsp := not_lt.mp hcode
        by_cases hsum : b0 ^^^ b1 ^^^ b2 = b3
        · cases h.unique (delivers_decode_okResponse hrsp hsum)
        · cases h.unique (delivers_decode_checksum hrsp hsum)
          exact .inr (.inr ⟨b0, b1, b2, b3, rfl, hrsp, hsum, rfl⟩)
    · cases h.unique (delivers_decode_length hlen)
      exact .inl ⟨hlen, rfl⟩
  · rintro (⟨hlen, rfl⟩ | ⟨b0, b1, b2, b3, rfl, hcode, rfl⟩ | ⟨b0, b1, b2, b3, rfl, hcode, hsum, rfl⟩)
    · exact delivers_decode_length hlen
    · exact delivers_decode_unknownCode hcode b1 b2 b3
    · exact delivers_decode_checksum hcode hsum

/-- Settles O31: the causes are the failing checks, and an operation has one outcome. -/
theorem errorListIsComplete : Obligations.ErrorListIsComplete :=
  ⟨delivers_encode_err_iff_cause, delivers_decode_err_iff_cause⟩

theorem errorStatus_lt_seven (e : CodecError) : errorStatus e < 7 := by
  cases e with
  | format field _ => cases field <;> simp only [errorStatus, Nat.reduceLT]
  | protocol kind => cases kind <;> simp only [errorStatus, Nat.reduceLT]

/-- The table of R105 has no status above 6. -/
theorem status_lt_seven (o : OpOutcome) : status o < 7 := by
  cases o with
  | okFrame _ | okResponse _ => exact Nat.succ_pos 6
  | err e => exact errorStatus_lt_seven e

/-- Settles O32: each outcome's status is its entry in the table. -/
theorem statusCodesFollowTheTable : Obligations.StatusCodesFollowTheTable :=
  ⟨fun _ => rfl, fun _ => rfl, fun _ => ⟨rfl, rfl, rfl, rfl⟩, fun _ => rfl, fun _ _ => rfl, fun _ o _ => status_lt_seven o⟩

end Sys2Proof.Machine
end

section
/-! PROOFS. The checksum of a corrupted response frame (70_reset_and_hazards R125). -/

namespace Sys2Proof.Machine

/-- The received bytes of a frame have a matching checksum exactly when the error bytes XOR to zero (R125): the XOR of the first
three is off by the XOR of their errors. -/
theorem corrupted_checksum_iff {b0 b1 b2 b3 : Byte} (hsum : b0 ^^^ b1 ^^^ b2 = b3) (e0 e1 e2 e3 : Byte) :
    (b0 ^^^ e0) ^^^ (b1 ^^^ e1) ^^^ (b2 ^^^ e2) = b3 ^^^ e3 ↔ e0 ^^^ e1 ^^^ e2 ^^^ e3 = 0 := by
  have hreceived : (b0 ^^^ e0) ^^^ (b1 ^^^ e1) ^^^ (b2 ^^^ e2) = b3 ^^^ (e0 ^^^ e1 ^^^ e2) := by
    rw [← hsum]
    ac_rfl
  rw [hreceived, BitVec.xor_right_inj]
  exact BitVec.xor_eq_zero_iff.symm

/-- Behind a response code DECODE delivers CHECKSUM exactly when the checksum does not match (R86). -/
theorem exists_delivers_checksum_iff {b0 : Byte} (hcode : 247 ≤ b0.toNat) (b1 b2 b3 : Byte) :
    (∃ received computed, Delivers (.decode [b0, b1, b2, b3]) (.err (.protocol (.checksum received computed)))) ↔
      b0 ^^^ b1 ^^^ b2 ≠ b3 := by
  refine ⟨fun ⟨_, _, h⟩ hsum => ?_, fun hsum => ⟨_, _, delivers_decode_checksum hcode hsum⟩⟩
  cases h.unique (delivers_decode_okResponse hcode hsum)

/-- A bit position that the errors flip in an odd number of the bytes is set in their XOR (R125). -/
theorem xor_ne_zero_of_odd_flips {e0 e1 e2 e3 : Byte} {n : Nat}
    (hodd : (e0.getLsbD n ^^ e1.getLsbD n ^^ e2.getLsbD n ^^ e3.getLsbD n) = true) :
    e0 ^^^ e1 ^^^ e2 ^^^ e3 ≠ 0 := by
  intro hzero
  have hbit : (e0 ^^^ e1 ^^^ e2 ^^^ e3).getLsbD n = true := by
    simp only [BitVec.getLsbD_xor, hodd]
  rw [hzero, BitVec.ofNat_eq_ofNat, BitVec.getLsbD_zero] at hbit
  cases hbit

/-- Settles O25: received bytes are accepted or fail the checksum by the XOR of the errors, and XOR does not tell the order of
address and data. -/
theorem checksumDetectsExactlyNonzeroErrors : Obligations.ChecksumDetectsExactlyNonzeroErrors := by
  intro b0 b1 b2 b3 e0 e1 e2 e3 hcode hsum
  have hmatch := corrupted_checksum_iff hsum e0 e1 e2 e3
  refine ⟨fun hreceived => ⟨?_, fun hzero => ?_⟩, fun rf ⟨n, hodd⟩ haccepted => ?_, ?_⟩
  · exact (exists_delivers_checksum_iff hreceived _ _ _).trans (not_congr hmatch)
  · exact delivers_decode_okResponse hreceived (hmatch.mpr hzero)
  · obtain ⟨-, hpass⟩ := (exists_delivers_decode_four_iff _ _ _ _).mp ⟨rf, haccepted⟩
    exact xor_ne_zero_of_odd_flips hodd (hmatch.mp hpass)
  · have hswap : b0 ^^^ b2 ^^^ b1 = b3 := by
      rw [← hsum]
      ac_rfl
    exact delivers_decode_okResponse hcode hswap

end Sys2Proof.Machine
end

section
/-! PROOFS. Any response code is accepted, and the host's comparison tells the replies apart (70_reset_and_hazards R123). -/

namespace Sys2Proof

/-- No two names share a response code (R48). -/
theorem rspCode_injective : Function.Injective rspCode := by
  intro c c' h
  have hname : some c = some c' := by rw [← rspOfCode_rspCode c, h, rspOfCode_rspCode]
  exact Option.some.inj hname

end Sys2Proof

namespace Sys2Proof.Machine

/-- The host takes a reply for the answer to a name's request exactly when its code is the name's response code (R49, R123). -/
theorem answersRequest_cmdCode_iff (sent : Cmd) (rf : ResponseFrame) :
    answersRequest (cmdCode sent) rf = true ↔ rf.code = rspCode sent := by
  rw [answersRequest, pairedCode_cmdCode, beq_iff_eq]

/-- Settles O27: every name's response code passes DECODE's checks, and distinct names have distinct codes. -/
theorem onlyTheHostComparisonCatchesStaleReplies : Obligations.OnlyTheHostComparisonCatchesStaleReplies := by
  intro sent replied address data
  refine ⟨_, delivers_decode_okResponse (le_rspCode replied) rfl, rfl, ?_⟩
  rw [answersRequest_cmdCode_iff]
  exact rspCode_injective.eq_iff

end Sys2Proof.Machine
end

section
/-! PROOFS. The reset state: it holds no outcome, and no operation can tell it from any other state (70_reset_and_hazards R119; log 2). -/

namespace Sys2Proof.Machine

/-- What an operation is seen to deliver in one state it delivers in every state (R15). -/
theorem delivers_of_exec_eq {i : Instr} {s : State} {o : OpOutcome} (h : exec i s = .next (deliver o s)) :
    Delivers i o := by
  obtain ⟨o', hd⟩ := exists_delivers i
  have hout := congrArg State.outcomes (hd.next_eq h)
  have heq : o = o' := by simpa using hout
  rwa [heq]

/-- Settles O7: the reset state is one of the states in which the operation delivers its outcome. -/
theorem resetHoldsNothing : Obligations.ResetHoldsNothing :=
  ⟨reset_pending, reset_outcomes, fun _ _ _ h => delivers_of_exec_eq h State.reset⟩

/-- Settles O8: there is no outcome in the reset state. -/
theorem resetIsSound : Obligations.ResetIsSound := by
  intro o hmem
  rw [reset_outcomes] at hmem
  cases hmem

end Sys2Proof.Machine
end
